-- ==== Sys2Proof/Word.lean ====
section
/-! DEFINITION. The word types of XCP (spec 00_scope R9, R12, 30_encoding R91, R95, R100): bit 0 is the least significant
bit of every word. -/

namespace Sys2Proof

/-- One byte: a payload, a data byte, an error-flag set (R12, R95). -/
abbrev Byte := BitVec 8

/-- A 16-bit logical register value (10_state R32). -/
abbrev Half := BitVec 16

/-- One 16-bit command word, "the protocol's only atomic unit" (30_encoding R100). -/
abbrev CmdWord := BitVec 16

/-- A 32-bit value: the sensor command word, a response value (30_encoding R95, R105). -/
abbrev Word32 := BitVec 32

/-- The 80-bit request word of port REQ (30_encoding R91). -/
abbrev ReqWord := BitVec 80

end Sys2Proof
end

