-- ==== Sys2Proof/Syntax.lean ====
section
/-! DEFINITION. The operation set of XCP: one constructor for each of the thirty-six rows of spec/opcode_table.json
(30_encoding R96), with the operands of its format (30_encoding R92). What the spec treats as bits is a bit vector or a
Bool (register ids, values split into bytes, masked levels and bounds); what it treats as a number (a rate, a time, an
address, a count, the signed PWM duty) is a Nat or an Int, bounded by WellFormed (notes/assumptions/16). -/

namespace Sys2Proof

/-- One operation of the request port. -/
inductive Instr where
  /-- `WRITE_BIT id, d`: format B, 41_register_access R144. -/
  | writeBit (id : Byte) (d : Bool)
  /-- `WRITE16 id, value`: format H, 41_register_access R145. -/
  | write16 (id : Byte) (value : Half)
  /-- `WRITE32 id, value`: format W, 41_register_access R151. -/
  | write32 (id : Byte) (value : Word32)
  /-- `READ16 id`: format I, 41_register_access R160. -/
  | read16 (id : Byte)
  /-- `ENCODE_AND_SEND`: format N, 42_sensor_word R173. -/
  | encodeAndSend
  /-- `SET_FRAME_RATE hz`: format V16, 43_frame_timing R180. -/
  | setFrameRate (hz : Nat)
  /-- `SET_CAPTURE_MODE`: format N, 44_capture R195. -/
  | setCaptureMode
  /-- `SET_WOI xs, ys, xe, ye`: format G, 44_capture R191. -/
  | setWoi (xs ys xe ye : Half)
  /-- `SET_ITIME_INTERNAL ms`: format V32, 44_capture R192. -/
  | setItimeInternal (ms : Nat)
  /-- `SET_ITIME ms`: format V32, 44_capture R194. -/
  | setItime (ms : Nat)
  /-- `CAPTURE_FRAMES buf, totalPixels`: format C, 44_capture R196. -/
  | captureFrames (buf totalPixels : Nat)
  /-- `CAPTURE_DATA buf, length`: format C, 44_capture R197. -/
  | captureData (buf length : Nat)
  /-- `SET_GAIN v`: format V1, 44_capture R200. -/
  | setGain (v : Bool)
  /-- `SET_XINV v`: format V1, 44_capture R201. -/
  | setXinv (v : Bool)
  /-- `SET_YINV v`: format V1, 44_capture R202. -/
  | setYinv (v : Bool)
  /-- `SET_LINEREPEAT v`: format V1, 44_capture R203. -/
  | setLinerepeat (v : Bool)
  /-- `SET_REFOUT v`: format V1, 44_capture R204. -/
  | setRefout (v : Bool)
  /-- `SET_RESET v`: format V1, 44_capture R205. -/
  | setReset (v : Bool)
  /-- `SET_SKIM v`: format V1, 44_capture R206. -/
  | setSkim (v : Bool)
  /-- `SET_POWER v`: format V32, 44_capture R207. -/
  | setPower (v : Word32)
  /-- `SET_CURRENT v`: format V32, 44_capture R208. -/
  | setCurrent (v : Word32)
  /-- `SET_BIAS v`: format V32, 44_capture R209. -/
  | setBias (v : Word32)
  /-- `SET_BANDWIDTH v`: format V32, 44_capture R210. -/
  | setBandwidth (v : Word32)
  /-- `SET_OUTPUTFACTOR v`: format V32, 44_capture R211. -/
  | setOutputfactor (v : Word32)
  /-- `SET_ITR v`: format V1, 44_capture R212. -/
  | setItr (v : Bool)
  /-- `SET_MULTIPLEREADOUTS v`: format V1, 44_capture R213. -/
  | setMultiplereadouts (v : Bool)
  /-- `SET_NONDESTRUCTIVE v`: format V1, 44_capture R214. -/
  | setNondestructive (v : Bool)
  /-- `SET_PWM v`: format S32, 45_cache_setters R230. -/
  | setPwm (v : Int)
  /-- `SET_COOLING v`: format V1, 45_cache_setters R231. -/
  | setCooling (v : Bool)
  /-- `SET_IMAGE_INVERT v`: format V1, 45_cache_setters R232. -/
  | setImageInvert (v : Bool)
  /-- `SET_ANALOG id, value`: format H, 45_cache_setters R233. -/
  | setAnalog (id : Byte) (value : Half)
  /-- `GET i`: format I, 45_cache_setters R240. -/
  | get (i : Byte)
  /-- `GET_TEMPERATURE_ADU`: format N, 45_cache_setters R241. -/
  | getTemperatureAdu
  /-- `GET_TEMPERATURE_ADC_TYPE`: format N, 45_cache_setters R242. -/
  | getTemperatureAdcType
  /-- `OPEN`: format N, 45_cache_setters R243. -/
  | openDevice
  /-- `CLOSE`: format N, 45_cache_setters R244. -/
  | closeDevice
  deriving DecidableEq, Repr

end Sys2Proof
end

