-- ==== Sys2Proof/WellFormed.lean ====
section
/-! DEFINITION. Which operations have an encoding: the numeric operands fit the fields of their format
(30_encoding R92). Bit-vector and Bool operands fit by their type. -/

namespace Sys2Proof

/-- The 16-bit unsigned field of format V16. -/
def fitsU16 (n : Nat) : Bool := decide (n < 2 ^ 16)

/-- The 32-bit unsigned fields of formats V32 and C. -/
def fitsU32 (n : Nat) : Bool := decide (n < 2 ^ 32)

/-- The signed two's complement 32-bit field of format S32. -/
def fitsS32 (v : Int) : Bool := decide (-2 ^ 31 ≤ v) && decide (v < 2 ^ 31)

/-- Every operand fits its field (R92). -/
def Instr.WellFormed : Instr → Bool
  | .setFrameRate hz => fitsU16 hz
  | .setItimeInternal ms => fitsU32 ms
  | .setItime ms => fitsU32 ms
  | .captureFrames buf totalPixels => fitsU32 buf && fitsU32 totalPixels
  | .captureData buf length => fitsU32 buf && fitsU32 length
  | .setPwm v => fitsS32 v
  | .writeBit _ _ => true
  | .write16 _ _ => true
  | .write32 _ _ => true
  | .read16 _ => true
  | .encodeAndSend => true
  | .setCaptureMode => true
  | .setWoi _ _ _ _ => true
  | .setGain _ => true
  | .setXinv _ => true
  | .setYinv _ => true
  | .setLinerepeat _ => true
  | .setRefout _ => true
  | .setReset _ => true
  | .setSkim _ => true
  | .setPower _ => true
  | .setCurrent _ => true
  | .setBias _ => true
  | .setBandwidth _ => true
  | .setOutputfactor _ => true
  | .setItr _ => true
  | .setMultiplereadouts _ => true
  | .setNondestructive _ => true
  | .setCooling _ => true
  | .setImageInvert _ => true
  | .setAnalog _ _ => true
  | .get _ => true
  | .getTemperatureAdu => true
  | .getTemperatureAdcType => true
  | .openDevice => true
  | .closeDevice => true

end Sys2Proof
end

