-- ==== Sys2Proof/Decode.lean ====
section
/-! DEFINITION. Decoding and encoding of the 80-bit request word (30_encoding R91 to R93, R96). The decoder is total: every
word is an operation or is rejected by name. The encoder writes the word of an operation from the same tables. -/

namespace Sys2Proof

/-- Why a request word is no operation (30_encoding R93); XCP answers either with `NotSupported`. -/
inductive DecodeError where
  /-- The opcode is not listed in R96. -/
  | unassignedOpcode
  /-- A bit that the format does not name is set (R92). -/
  | reservedBit
  deriving DecidableEq, Repr

/-- `op = REQ[79:72]` (R91). -/
def reqOp (w : ReqWord) : Byte := w.extractLsb' 72 8

/-- `id = REQ[71:64]` (R91). -/
def reqId (w : ReqWord) : Byte := w.extractLsb' 64 8

/-- `arg = REQ[63:0]` (R91). -/
def reqArg (w : ReqWord) : BitVec 64 := w.extractLsb' 0 64

/-- The operand formats of R92. -/
inductive Format where
  | N | B | H | W | I | V1 | V16 | V32 | S32 | G | C
  deriving DecidableEq, Repr

/-- The formats whose `id` field is reserved (R92). -/
def Format.idReserved : Format → Bool
  | .B | .H | .W | .I => false
  | .N | .V1 | .V16 | .V32 | .S32 | .G | .C => true

/-- How many low bits of `arg` the format names; the bits above are reserved (R92). -/
def Format.argBits : Format → Nat
  | .N | .I => 0
  | .B | .V1 => 1
  | .H | .V16 => 16
  | .W | .V32 | .S32 => 32
  | .G | .C => 64

/-- Every bit the format does not name is zero (R92, R93). -/
def Format.reservedClear (f : Format) (w : ReqWord) : Bool :=
  (!f.idReserved || reqId w == 0#8) && (reqArg w >>> f.argBits == 0#64)

/-- An operation of format `f`, rejected when a reserved bit is set. -/
def decodeAs (f : Format) (w : ReqWord) (i : Instr) : Except DecodeError Instr :=
  if f.reservedClear w then .ok i else .error .reservedBit

/-- `arg[0]`, the one-bit operand of formats B and V1. -/
def argBit (w : ReqWord) : Bool := (reqArg w).getLsbD 0

/-- `arg[15:0]`. -/
def argHalf (w : ReqWord) : Half := (reqArg w).extractLsb' 0 16

/-- `arg[31:0]`. -/
def argWord (w : ReqWord) : Word32 := (reqArg w).extractLsb' 0 32

/-- `arg[63:32]`, the buffer address of format C. -/
def argHigh (w : ReqWord) : Word32 := (reqArg w).extractLsb' 32 32

/-- The operation of a request word (R91, R92, R96), or the reason there is none (R93). -/
def decode (w : ReqWord) : Except DecodeError Instr :=
  match (reqOp w).toNat with
  | 0x01 => decodeAs .B w (.writeBit (reqId w) (argBit w))
  | 0x02 => decodeAs .H w (.write16 (reqId w) (argHalf w))
  | 0x03 => decodeAs .W w (.write32 (reqId w) (argWord w))
  | 0x04 => decodeAs .I w (.read16 (reqId w))
  | 0x10 => decodeAs .N w .encodeAndSend
  | 0x18 => decodeAs .V16 w (.setFrameRate (argHalf w).toNat)
  | 0x20 => decodeAs .N w .setCaptureMode
  | 0x21 => decodeAs .G w (.setWoi ((reqArg w).extractLsb' 48 16) ((reqArg w).extractLsb' 32 16)
      ((reqArg w).extractLsb' 16 16) ((reqArg w).extractLsb' 0 16))
  | 0x22 => decodeAs .V32 w (.setItimeInternal (argWord w).toNat)
  | 0x23 => decodeAs .V32 w (.setItime (argWord w).toNat)
  | 0x24 => decodeAs .C w (.captureFrames (argHigh w).toNat (argWord w).toNat)
  | 0x25 => decodeAs .C w (.captureData (argHigh w).toNat (argWord w).toNat)
  | 0x30 => decodeAs .V1 w (.setGain (argBit w))
  | 0x31 => decodeAs .V1 w (.setXinv (argBit w))
  | 0x32 => decodeAs .V1 w (.setYinv (argBit w))
  | 0x33 => decodeAs .V1 w (.setLinerepeat (argBit w))
  | 0x34 => decodeAs .V1 w (.setRefout (argBit w))
  | 0x35 => decodeAs .V1 w (.setReset (argBit w))
  | 0x36 => decodeAs .V1 w (.setSkim (argBit w))
  | 0x37 => decodeAs .V32 w (.setPower (argWord w))
  | 0x38 => decodeAs .V32 w (.setCurrent (argWord w))
  | 0x39 => decodeAs .V32 w (.setBias (argWord w))
  | 0x3A => decodeAs .V32 w (.setBandwidth (argWord w))
  | 0x3B => decodeAs .V32 w (.setOutputfactor (argWord w))
  | 0x3C => decodeAs .V1 w (.setItr (argBit w))
  | 0x3D => decodeAs .V1 w (.setMultiplereadouts (argBit w))
  | 0x3E => decodeAs .V1 w (.setNondestructive (argBit w))
  | 0x40 => decodeAs .S32 w (.setPwm (argWord w).toInt)
  | 0x41 => decodeAs .V1 w (.setCooling (argBit w))
  | 0x42 => decodeAs .V1 w (.setImageInvert (argBit w))
  | 0x44 => decodeAs .H w (.setAnalog (reqId w) (argHalf w))
  | 0x48 => decodeAs .I w (.get (reqId w))
  | 0x49 => decodeAs .N w .getTemperatureAdu
  | 0x4A => decodeAs .N w .getTemperatureAdcType
  | 0x7E => decodeAs .N w .openDevice
  | 0x7F => decodeAs .N w .closeDevice
  | _ => .error .unassignedOpcode

/-- The opcode of each operation (R96). -/
def Instr.opcode : Instr → Byte
  | .writeBit _ _ => 0x01
  | .write16 _ _ => 0x02
  | .write32 _ _ => 0x03
  | .read16 _ => 0x04
  | .encodeAndSend => 0x10
  | .setFrameRate _ => 0x18
  | .setCaptureMode => 0x20
  | .setWoi _ _ _ _ => 0x21
  | .setItimeInternal _ => 0x22
  | .setItime _ => 0x23
  | .captureFrames _ _ => 0x24
  | .captureData _ _ => 0x25
  | .setGain _ => 0x30
  | .setXinv _ => 0x31
  | .setYinv _ => 0x32
  | .setLinerepeat _ => 0x33
  | .setRefout _ => 0x34
  | .setReset _ => 0x35
  | .setSkim _ => 0x36
  | .setPower _ => 0x37
  | .setCurrent _ => 0x38
  | .setBias _ => 0x39
  | .setBandwidth _ => 0x3A
  | .setOutputfactor _ => 0x3B
  | .setItr _ => 0x3C
  | .setMultiplereadouts _ => 0x3D
  | .setNondestructive _ => 0x3E
  | .setPwm _ => 0x40
  | .setCooling _ => 0x41
  | .setImageInvert _ => 0x42
  | .setAnalog _ _ => 0x44
  | .get _ => 0x48
  | .getTemperatureAdu => 0x49
  | .getTemperatureAdcType => 0x4A
  | .openDevice => 0x7E
  | .closeDevice => 0x7F

/-- The operand format of each operation (R92, R96). -/
def Instr.format : Instr → Format
  | .writeBit _ _ => .B
  | .write16 _ _ | .setAnalog _ _ => .H
  | .write32 _ _ => .W
  | .read16 _ | .get _ => .I
  | .encodeAndSend | .setCaptureMode | .getTemperatureAdu | .getTemperatureAdcType | .openDevice | .closeDevice => .N
  | .setFrameRate _ => .V16
  | .setWoi _ _ _ _ => .G
  | .setItimeInternal _ | .setItime _ | .setPower _ | .setCurrent _ | .setBias _ | .setBandwidth _
  | .setOutputfactor _ => .V32
  | .captureFrames _ _ | .captureData _ _ => .C
  | .setGain _ | .setXinv _ | .setYinv _ | .setLinerepeat _ | .setRefout _ | .setReset _ | .setSkim _ | .setItr _
  | .setMultiplereadouts _ | .setNondestructive _ | .setCooling _ | .setImageInvert _ => .V1
  | .setPwm _ => .S32

/-- The `id` field of an operation: its register id or cache index, else the reserved zero (R92). -/
def Instr.idField : Instr → Byte
  | .writeBit id _ | .write16 id _ | .write32 id _ | .read16 id | .setAnalog id _ | .get id => id
  | .encodeAndSend | .setCaptureMode | .getTemperatureAdu | .getTemperatureAdcType | .openDevice | .closeDevice
  | .setFrameRate _ | .setWoi _ _ _ _ | .setItimeInternal _ | .setItime _ | .captureFrames _ _ | .captureData _ _
  | .setGain _ | .setXinv _ | .setYinv _ | .setLinerepeat _ | .setRefout _ | .setReset _ | .setSkim _ | .setPower _
  | .setCurrent _ | .setBias _ | .setBandwidth _ | .setOutputfactor _ | .setItr _ | .setMultiplereadouts _
  | .setNondestructive _ | .setPwm _ | .setCooling _ | .setImageInvert _ => 0

/-- A one-bit operand in `arg[0]`. -/
def bitArg (d : Bool) : BitVec 64 := (BitVec.ofBool d).setWidth 64

/-- The `arg` field of an operation (R92). -/
def Instr.argField : Instr → BitVec 64
  | .writeBit _ d => bitArg d
  | .write16 _ v | .setAnalog _ v => v.setWidth 64
  | .write32 _ v => v.setWidth 64
  | .read16 _ | .get _ => 0
  | .encodeAndSend | .setCaptureMode | .getTemperatureAdu | .getTemperatureAdcType | .openDevice | .closeDevice => 0
  | .setFrameRate hz => (BitVec.ofNat 16 hz).setWidth 64
  | .setWoi xs ys xe ye => xs ++ ys ++ xe ++ ye
  | .setItimeInternal ms | .setItime ms => (BitVec.ofNat 32 ms).setWidth 64
  | .captureFrames buf n | .captureData buf n => BitVec.ofNat 32 buf ++ BitVec.ofNat 32 n
  | .setPower v | .setCurrent v | .setBias v | .setBandwidth v | .setOutputfactor v => v.setWidth 64
  | .setGain v | .setXinv v | .setYinv v | .setLinerepeat v | .setRefout v | .setReset v | .setSkim v | .setItr v
  | .setMultiplereadouts v | .setNondestructive v | .setCooling v | .setImageInvert v => bitArg v
  | .setPwm v => (BitVec.ofInt 32 v).setWidth 64

/-- The request word of an operation: opcode, id and arg, the opcode most significant (R91). -/
def encode (i : Instr) : ReqWord := i.opcode ++ i.idField ++ i.argField

/-- What the decoder reads from the low `nbits` bits of `w`, as the table numbers them: bit 0 is `REQ[0]`, the bits from
`nbits` up are zero. -/
def decodeTableWord (nbits w : Nat) : Option Instr :=
  match decode (BitVec.ofNat 80 (w % 2 ^ nbits)) with
  | .ok i => some i
  | .error _ => none

end Sys2Proof
end

