-- ==== Sys2Proof/Config.lean ====
section
/-! DEFINITION. What an installation of XCP fixes: the constants the document gives (00_scope R9), the open parameters
(00_scope R10) as one record of plain data that State holds, their reference assignment REFCFG (30_encoding R112), and the
free values, which are opaque constants without a body: nothing can be proved of what they answer. -/

namespace Sys2Proof.Config

/-! Constants of 00_scope R9, R7. -/

/-- `MAXWIDTH`, pixels (R9). -/
def maxWidth : Nat := 320
/-- `MAXHEIGHT`, pixels (R9). -/
def maxHeight : Nat := 256
/-- `BYTES_PER_PIXEL` (R9). -/
def bytesPerPixel : Nat := 2
/-- Pixels of one full frame, `MAXWIDTH * MAXHEIGHT` = 81920 (R9). -/
def framePixels : Nat := maxWidth * maxHeight
/-- `FRAME_BYTES` = 163840 (R9). -/
def frameBytes : Nat := framePixels * bytesPerPixel
/-- `MAXHZ` (R9). -/
def maxHz : Nat := 350
/-- The largest PWM duty (R9). -/
def maxPwm : Nat := 4095
/-- Ticks of the integration-time register in one millisecond: 1000 microseconds of 40 ticks (R9, 44_capture R192). -/
def ticksPerMs : Nat := 1000 * 40
/-- The largest integration time whose ticks fit 32 bits (44_capture R192). -/
def maxItimeMs : Nat := 107374
/-- The fixed part of the capture timeout, milliseconds (R9). -/
def baseTimeoutMs : Nat := 5000
/-- The last byte address of the frame buffer (20_memory R66). -/
def lastBufAddr : Nat := 0xFFFFFFFF
/-- USB vendor id of the camera, a fact of the transport kept by R7; no rule of XCP uses it. -/
def usbVendorId : BitVec 16 := 0x1b21
/-- USB product id of the camera, a fact of the transport kept by R7; no rule of XCP uses it. -/
def usbProductId : BitVec 16 := 0x8637

/-! Open parameters (R10). A parameter that is a function is named by plain data: the function REFCFG gives it, or one of
the uninterpreted functions below, so that every function is allowed and State stays plain data (notes/assumptions/6). -/

/-- Which `CtlPayload` an installation has (30_encoding R102). -/
inductive CtlLayout where
  /-- `(idx << 1) | d`, the layout R102 takes. -/
  | shifted
  /-- Any other layout, uninterpreted. -/
  | other (k : Nat)
  deriving DecidableEq, Repr

/-- Which `TempOf` an installation has (20_memory R71). -/
inductive TempDecode where
  /-- Byte 8 is the low byte (REFCFG). -/
  | byte8Low
  /-- Any other decoding, uninterpreted. -/
  | other (k : Nat)
  deriving DecidableEq, Repr

/-- Which `EepromSizeOf` an installation has (30_encoding R108). -/
inductive EepromDecode where
  /-- The type byte itself (REFCFG). -/
  | identity
  /-- Any other decoding, uninterpreted. -/
  | other (k : Nat)
  deriving DecidableEq, Repr

/-- Which `ValidOf` an installation has (30_encoding R108). -/
inductive ValidTest where
  /-- Every byte is valid (REFCFG). -/
  | always
  /-- Any other test, uninterpreted. -/
  | other (k : Nat)
  deriving DecidableEq, Repr

/-- `PIXEL_BYTE_ORDER` (20_memory R70); used by no rule. -/
inductive PixelByteOrder where
  | lowFirst | highFirst
  deriving DecidableEq, Repr

/-- `DEFAULTS`: a value for every cache field that reset does not derive (10_state R21, 70_reset_and_hazards R291). The
field widths bound `pwm` by 4095 and the window bounds by 4095, as R291 asks. -/
structure Defaults where
  gain : Bool
  xinv : Bool
  yinv : Bool
  linerepeat : Bool
  refout : Bool
  reset : Bool
  skim : Bool
  power : Word32
  current : Word32
  bias : Word32
  bandwidth : Word32
  outputfactor : Word32
  itr : Bool
  multiplereadouts : Bool
  nondestructive : Bool
  itimeMs : Word32
  pwm : BitVec 12
  cooling : Bool
  continuous : Bool
  exttrig : Bool
  invert : Bool
  fan : Bool
  woiXs : BitVec 12
  woiYs : BitVec 12
  woiXe : BitVec 12
  woiYe : BitVec 12
  frameHz : Half
  adc : Half
  vref : Half
  vdet : Half
  pidP : Half
  pidI : Half
  pidD : Half
  pidSettle : Half
  vinx : Half
  vrefx : Half
  pwmx : Half
  reservedx : Half
  deriving DecidableEq, Repr

/-- The open parameters of R10, each under the document's name. -/
structure Params where
  /-- `CTL_BASE`, control bank. -/
  ctlBase : CmdWord
  /-- `AUXA_BASE`, auxiliary address. -/
  auxaBase : CmdWord
  /-- `AUXD_BASE`, auxiliary data. -/
  auxdBase : CmdWord
  /-- `AV0_BASE`, analog-value-0. -/
  av0Base : CmdWord
  /-- `AV2_BASE`, analog-value-2. -/
  av2Base : CmdWord
  /-- `ASEL_BASE`, analog-select. -/
  aselBase : CmdWord
  /-- `TSEL_BASE`, timing-selector. -/
  tselBase : CmdWord
  /-- `MISC_BASE`, misc: never emitted (R61). -/
  miscBase : CmdWord
  /-- `W32_BASE`, the 32-bit writer of the sensor command word. -/
  w32Base : CmdWord
  /-- `ITIME_BASE`, the 32-bit writer of the integration time. -/
  itimeBase : CmdWord
  /-- `WOI_XS_BASE`. -/
  woiXsBase : CmdWord
  /-- `WOI_YS_BASE`. -/
  woiYsBase : CmdWord
  /-- `WOI_XE_BASE`. -/
  woiXeBase : CmdWord
  /-- `WOI_YE_BASE`. -/
  woiYeBase : CmdWord
  /-- `WOI_XINC_BASE`. -/
  woiXincBase : CmdWord
  /-- `WOI_YINC_BASE`. -/
  woiYincBase : CmdWord
  /-- `IDX_COOLING`, a 3-bit control-bank index (10_state R31). -/
  idxCooling : BitVec 3
  /-- `IDX_CONTINUOUS`. -/
  idxContinuous : BitVec 3
  /-- `IDX_EXTTRIG`. -/
  idxExttrig : BitVec 3
  /-- `IDX_INVERT`. -/
  idxInvert : BitVec 3
  /-- `IDX_DELAY_EN`, the frame-delay enable. -/
  idxDelayEn : BitVec 3
  /-- `BANKSEL0`, control-bank code. -/
  banksel0 : Byte
  /-- `BANKSEL1`, control-bank code. -/
  banksel1 : Byte
  /-- `PIXCORR_OFF_A`, control-bank code (42_sensor_word R174). -/
  pixcorrOffA : Byte
  /-- `PIXCORR_OFF_B`, control-bank code. -/
  pixcorrOffB : Byte
  /-- `ITIME_PRE`, the control-bank codes before an integration-time write (44_capture R192). -/
  itimePre : List Byte
  /-- `AUX_TEMPERATURE`, auxiliary address (10_state R34). -/
  auxTemperature : Byte
  /-- `AUX_ADC_TYPE`. -/
  auxAdcType : Byte
  /-- `AUX_DELAY_HI`. -/
  auxDelayHi : Byte
  /-- `AUX_DELAY_LO`. -/
  auxDelayLo : Byte
  /-- `CtlPayload`. -/
  ctlLayout : CtlLayout
  /-- `TempOf`. -/
  tempOf : TempDecode
  /-- `EepromSizeOf`. -/
  eepromSizeOf : EepromDecode
  /-- `ValidOf`. -/
  validOf : ValidTest
  /-- `PIXEL_BYTE_ORDER`. -/
  pixelByteOrder : PixelByteOrder
  /-- `CTRL_TIMEOUT_MS` (40_command_channel R134). -/
  ctrlTimeoutMs : Nat
  /-- `DEFAULTS`. -/
  defaults : Defaults
  deriving DecidableEq, Repr

/-- The base words with an 8-bit payload (20_memory R61). -/
def Params.bases8 (P : Params) : List CmdWord :=
  [P.ctlBase, P.auxaBase, P.auxdBase, P.av0Base, P.av2Base, P.aselBase, P.tselBase, P.miscBase]

/-- The base words of the 32-bit value writer, four byte offsets each (20_memory R62). -/
def Params.bases32 (P : Params) : List CmdWord := [P.w32Base, P.itimeBase]

/-- The window base words, with a 12-bit payload (20_memory R62). -/
def Params.bases12 (P : Params) : List CmdWord :=
  [P.woiXsBase, P.woiYsBase, P.woiXeBase, P.woiYeBase, P.woiXincBase, P.woiYincBase]

/-- The word sets `base | p` as intervals: first word and size. -/
def Params.wordSets (P : Params) : List (Nat × Nat) :=
  P.bases8.map (fun b => (b.toNat, 0x100)) ++ P.bases32.map (fun b => (b.toNat, 0x400))
    ++ P.bases12.map (fun b => (b.toNat, 0x1000))

/-- The constraints of 20_memory R77 (payload bits of every base zero, word sets pairwise disjoint) and of 10_state R34
(no auxiliary address is 0xFF). -/
abbrev Params.Admissible (P : Params) : Prop :=
  (∀ r ∈ P.wordSets, r.1 % r.2 = 0) ∧
  P.wordSets.Pairwise (fun a b => a.1 + a.2 ≤ b.1 ∨ b.1 + b.2 ≤ a.1) ∧
  P.auxTemperature ≠ 0xFF ∧ P.auxAdcType ≠ 0xFF ∧ P.auxDelayHi ≠ 0xFF ∧ P.auxDelayLo ≠ 0xFF

/-- REFCFG's `DEFAULTS` (30_encoding R112). DESIGN CHOICE: the spec gives no default of any field (notes/assumptions/7). -/
def refDefaults : Defaults where
  gain := false
  xinv := false
  yinv := false
  linerepeat := false
  refout := false
  reset := false
  skim := false
  power := 0
  current := 0
  bias := 0
  bandwidth := 0
  outputfactor := 1
  itr := false
  multiplereadouts := false
  nondestructive := false
  itimeMs := 10
  pwm := 0
  cooling := false
  continuous := false
  exttrig := false
  invert := false
  fan := false
  woiXs := 0
  woiYs := 0
  woiXe := 319
  woiYe := 255
  frameHz := 350
  adc := 0
  vref := 0
  vdet := 0
  pidP := 0
  pidI := 0
  pidD := 0
  pidSettle := 0
  vinx := 0
  vrefx := 0
  pwmx := 0
  reservedx := 0

/-- REFCFG (30_encoding R112): the assignment the spec's vectors are printed under. DESIGN CHOICE: it stands in
`State.reset` only, and no operation refers to it (notes/assumptions/5). -/
def refcfg : Params where
  ctlBase := 0x1000
  auxaBase := 0x1100
  auxdBase := 0x1200
  av0Base := 0x2000
  av2Base := 0x2200
  aselBase := 0x2400
  tselBase := 0x2500
  miscBase := 0x2F00
  w32Base := 0x3000
  itimeBase := 0x3400
  woiXsBase := 0x8000
  woiYsBase := 0x9000
  woiXeBase := 0xA000
  woiYeBase := 0xB000
  woiXincBase := 0xC000
  woiYincBase := 0xD000
  idxCooling := 0
  idxContinuous := 2
  idxExttrig := 4
  idxInvert := 5
  idxDelayEn := 6
  banksel0 := 0x06
  banksel1 := 0x03
  pixcorrOffA := 0x0E
  pixcorrOffB := 0x1E
  itimePre := []
  auxTemperature := 0x01
  auxAdcType := 0x02
  auxDelayHi := 0x10
  auxDelayLo := 0x11
  ctlLayout := .shifted
  tempOf := .byte8Low
  eepromSizeOf := .identity
  validOf := .always
  pixelByteOrder := .lowFirst
  ctrlTimeoutMs := 10000
  defaults := refDefaults

/-! What the environment can answer (00_scope R5, 40_command_channel R130 to R133, 45_cache_setters R243). -/

/-- What the transport reports of one transaction. -/
inductive Transport where
  /-- No transport error. -/
  | ok
  /-- The transaction's timeout elapsed. -/
  | timeout
  /-- Any other transport error. -/
  | error
  deriving DecidableEq, Repr, Inhabited

/-- An answered `STATUS` transaction: the report and the 64-byte response buffer, which counts only when the report is
`ok` (R131). -/
structure StatusReply where
  transport : Transport
  bytes : Vector Byte 64
  deriving DecidableEq, Repr, Inhabited

/-- An answered `BULK` transaction: the report and the bytes that arrived, of which at most the count asked for are
received (R132). -/
structure BulkReply where
  transport : Transport
  bytes : List Byte
  deriving DecidableEq, Repr, Inhabited

/-- How device discovery answers `OPEN` (R243). -/
inductive OpenReply where
  | ok | notFound | error
  deriving DecidableEq, Repr, Inhabited

/-! Free values: opaque constants without a body, applied to a counter of `State.draws` or to a parameter's name. A free
answer may be `none`: a transaction the environment never answers (60_exceptions R272, notes/assumptions/2 and 3). -/

/-- FREE VALUE: the environment's answer to a `CMD` transaction (R5, R130), if it answers. -/
opaque commandReply : Nat → Option Transport
/-- FREE VALUE: the environment's answer to a `STATUS` transaction (R5, R131), if it answers. -/
opaque statusReply : Nat → Option StatusReply
/-- FREE VALUE: the environment's answer to a `BULK` transaction (R5, R132), if it answers. -/
opaque bulkReply : Nat → Option BulkReply
/-- FREE VALUE: the environment's answer to `OPEN` (R243), which always arrives (notes/assumptions/27). -/
opaque openReply : Nat → OpenReply
/-- FREE VALUE: a frame-buffer byte that "holds any value" (44_capture R196, R197). -/
opaque anyByte : Nat → Byte
/-- An uninterpreted `CtlPayload` (R102). -/
opaque ctlPayload : Nat → BitVec 3 → Bool → Byte
/-- An uninterpreted `TempOf` (R71). -/
opaque tempDecode : Nat → Byte → Byte → Half
/-- An uninterpreted `EepromSizeOf` (R108). -/
opaque eepromDecode : Nat → Byte → Half
/-- An uninterpreted `ValidOf` (R108). -/
opaque validTest : Nat → Byte → Bool

end Sys2Proof.Config
end

