-- ==== Sys2Proof/Machine/State.lean ====
section
/-! DEFINITION. The state of XCP (spec 10_state.md) as plain data, the reasons a step can stop, and the state after reset.
Every field cites the rule that gives it; INVENTORY.md lists them with their reset values. -/

namespace Sys2Proof.Machine

open Sys2Proof.Config

/-- The result classes of 60_exceptions R260. -/
inductive ResultClass where
  | ok | timeout | underrun | notFound | noSuchRegister | notSupported | generic
  deriving DecidableEq, Repr

/-- The capture state `cstate` (10_state R38, 44_capture R190). -/
inductive CaptureState where
  | idle | configured | capturing
  deriving DecidableEq, Repr

/-- One downstream transaction (10_state R41). -/
inductive Xfer where
  /-- `cmd(w)`: one command word on `CMD` (40_command_channel R130). -/
  | cmd (w : CmdWord)
  /-- `status`: one status read on `STATUS` (40_command_channel R131). -/
  | status
  /-- `bulk(n, t)`: a read of `n` bytes with timeout `t` milliseconds on `BULK` (40_command_channel R132). -/
  | bulk (n t : Nat)
  deriving DecidableEq, Repr

/-- An answered transaction: one entry of the ghost `trace` (10_state R41). -/
structure Event where
  xfer : Xfer
  result : ResultClass
  deriving DecidableEq, Repr

/-- A transaction the environment has not answered, with the timeout handed to the environment
(40_command_channel R134, 60_exceptions R272). -/
structure Outstanding where
  xfer : Xfer
  timeoutMs : Nat
  deriving DecidableEq, Repr

/-- A response on port `RSP` (30_encoding R95). -/
structure Response where
  err : Byte
  value : Word32
  deriving DecidableEq, Repr

/-- The Camera State Cache, registers `c[0]` to `c[43]` (10_state R21). -/
structure Cache where
  /-- `c[0]`. -/
  gain : Bool
  /-- `c[1]`. -/
  xinv : Bool
  /-- `c[2]`. -/
  yinv : Bool
  /-- `c[3]`. -/
  linerepeat : Bool
  /-- `c[4]`. -/
  refout : Bool
  /-- `c[5]`, the sensor's reset flag (44_capture R205). -/
  reset : Bool
  /-- `c[6]`. -/
  skim : Bool
  /-- `c[7]`, unmasked (R24). -/
  power : Word32
  /-- `c[8]`, unmasked. -/
  current : Word32
  /-- `c[9]`, unmasked. -/
  bias : Word32
  /-- `c[10]`, unmasked. -/
  bandwidth : Word32
  /-- `c[11]`, as requested. -/
  outputfactor : Word32
  /-- `c[12]`. -/
  itr : Bool
  /-- `c[13]`. -/
  multiplereadouts : Bool
  /-- `c[14]`. -/
  nondestructive : Bool
  /-- `c[15]`, milliseconds. -/
  itimeMs : Word32
  /-- `c[16]`, `5000 + itime_ms` (R26). -/
  captureTimeoutMs : Word32
  /-- `c[17]`, 0 to 4095 (R27). -/
  pwm : BitVec 12
  /-- `c[18]`. -/
  cooling : Bool
  /-- `c[19]`. -/
  continuous : Bool
  /-- `c[20]`. -/
  exttrig : Bool
  /-- `c[21]`. -/
  invert : Bool
  /-- `c[22]`, written by no operation (R29). -/
  fan : Bool
  /-- `c[23]`, masked to 12 bits (R25). -/
  woiXs : BitVec 12
  /-- `c[24]`. -/
  woiYs : BitVec 12
  /-- `c[25]`. -/
  woiXe : BitVec 12
  /-- `c[26]`. -/
  woiYe : BitVec 12
  /-- `c[27]`, only ever 1. -/
  woiXinc : BitVec 12
  /-- `c[28]`, only ever 1. -/
  woiYinc : BitVec 12
  /-- `c[29]`, the last requested rate after the cap. -/
  frameHz : Half
  /-- `c[32]`. -/
  adc : Half
  /-- `c[33]`. -/
  vref : Half
  /-- `c[34]`. -/
  vdet : Half
  /-- `c[36]`. -/
  pidP : Half
  /-- `c[37]`. -/
  pidI : Half
  /-- `c[38]`. -/
  pidD : Half
  /-- `c[39]`. -/
  pidSettle : Half
  /-- `c[40]`. -/
  vinx : Half
  /-- `c[41]`. -/
  vrefx : Half
  /-- `c[42]`. -/
  pwmx : Half
  /-- `c[43]`. -/
  reservedx : Half
  deriving DecidableEq, Repr

/-- The answers the environment has already settled on, one queue for each port; `none` is a transaction it never answers
(60_exceptions R272). Past the end of a queue the answer, or that there is none, is free (notes/assumptions/2). -/
structure Env where
  cmd : List (Option Transport)
  status : List (Option StatusReply)
  bulk : List (Option BulkReply)
  opens : List OpenReply
  deriving DecidableEq, Repr

/-- The model's own counters, one for each kind of free value: how many have been taken (notes/assumptions/2 and 10). -/
structure Draws where
  /-- Free answers taken on `CMD`. -/
  cmd : Nat
  /-- Free answers taken on `STATUS`. -/
  status : Nat
  /-- Free answers taken on `BULK`. -/
  bulk : Nat
  /-- Free answers taken to `OPEN`. -/
  opens : Nat
  /-- Frame-buffer bytes that hold any value. -/
  bytes : Nat
  deriving DecidableEq, Repr

/-- The caller's frame buffer behind port `BUF` (20_memory R66): the bytes XCP has written, by address, addresses strictly
rising. An address that is not listed holds the host's own content, which XCP never reads and reset does not touch
(70_reset_and_hazards R290). -/
abbrev Memory := List Host.Cell

/-- The whole state: what XCP holds (10_state R20), its ports, the ghost state (10_state R41 to R43), and the model's own
fields (`cfg`, `env`, `draws`, `outstanding`). -/
structure State where
  /-- The open parameters of the installation (00_scope R10); no operation changes them. -/
  cfg : Params
  /-- The requests the host presents on `REQ`, the next one first (00_scope R4, R5). -/
  reqs : List ReqWord
  /-- The environment's settled answers (00_scope R5). -/
  env : Env
  /-- The counters the free values are applied to. -/
  draws : Draws
  /-- The Camera State Cache; `none` exactly while `opened` is false (R21, R44). -/
  cache : Option Cache
  /-- The capture state (R38). -/
  cstate : CaptureState
  /-- The error accumulator (R39). -/
  err : Byte
  /-- The sequencer position: transactions done by the current or last operation (R40). -/
  seq : Nat
  /-- The transaction the sequencer is blocked in, if any (60_exceptions R272). -/
  outstanding : Option Outstanding
  /-- The last response on `RSP`; `none` while an operation has not answered (30_encoding R95). -/
  rsp : Option Response
  /-- Ghost: the answered transactions since reset (R41). -/
  trace : List Event
  /-- Ghost: payload of the last timing-selector word, else 0xFF (R42). -/
  tsel : Byte
  /-- Ghost: payload of the last analog-select word, else 0xFF (R42). -/
  asel : Byte
  /-- Ghost: payload of the last auxiliary-address word, else 0xFF (R42). -/
  auxa : Byte
  /-- Ghost: the frame classes of the last `CAPTURE_FRAMES` (R43). -/
  framelog : List ResultClass
  /-- The frame buffer (20_memory R66). -/
  buf : Memory
  deriving DecidableEq, Repr

/-- `opened` (10_state R44): true exactly when the cache exists. -/
def State.opened (s : State) : Bool := s.cache.isSome

/-- XCP has no condition that halts it ("`stuck` is used nowhere", 93_implementation_defined Part 1): no step faults, so this
type has no constructor. -/
inductive Fault where
  deriving DecidableEq, Repr

/-- The requests the spec gives no meaning (60_exceptions R274): "a refusal is not an error class: the model has no step for
the request". All are safe: nothing is provable of a run that contains one. -/
inductive Refusal where
  /-- An instruction without a meaning, rejected by name by `exec`; safe. No arm answers it in this model. -/
  | notModelled (mnemonic : String)
  /-- A second request presented before the first is answered (20_memory R80); raised by `step` and by every meaning; safe. -/
  | requestWhileBusy
  /-- An operation other than `OPEN` while closed (60_exceptions R275); raised by every meaning but `OPEN`'s; safe. -/
  | deviceClosed
  /-- `OPEN` while open (45_cache_setters R243); raised by `OPEN`; safe. -/
  | alreadyOpen
  /-- `SET_FRAME_RATE 0` (43_frame_timing R186); safe. -/
  | zeroFrameRate
  /-- `SET_FRAME_RATE` over an inverted cached window (43_frame_timing R186); safe. -/
  | invertedWindow
  /-- An integration time above 107374 ms (44_capture R192), raised by both integration-time operations; safe. -/
  | integrationTimeTooLong
  /-- A capture whose last byte address passes 0xFFFFFFFF (44_capture R196, R197), raised by both captures; safe. -/
  | captureBeyondBuffer
  deriving DecidableEq, Repr

/-- The cache at device-open time: `DEFAULTS`, the capture timeout `5000 + itime_ms` and unit window increments
(10_state R46, 70_reset_and_hazards R291). -/
def Cache.ofDefaults (d : Defaults) : Cache where
  gain := d.gain
  xinv := d.xinv
  yinv := d.yinv
  linerepeat := d.linerepeat
  refout := d.refout
  reset := d.reset
  skim := d.skim
  power := d.power
  current := d.current
  bias := d.bias
  bandwidth := d.bandwidth
  outputfactor := d.outputfactor
  itr := d.itr
  multiplereadouts := d.multiplereadouts
  nondestructive := d.nondestructive
  itimeMs := d.itimeMs
  captureTimeoutMs := BitVec.ofNat 32 baseTimeoutMs + d.itimeMs
  pwm := d.pwm
  cooling := d.cooling
  continuous := d.continuous
  exttrig := d.exttrig
  invert := d.invert
  fan := d.fan
  woiXs := d.woiXs
  woiYs := d.woiYs
  woiXe := d.woiXe
  woiYe := d.woiYe
  woiXinc := 1
  woiYinc := 1
  frameHz := d.frameHz
  adc := d.adc
  vref := d.vref
  vdet := d.vdet
  pidP := d.pidP
  pidI := d.pidI
  pidD := d.pidD
  pidSettle := d.pidSettle
  vinx := d.vinx
  vrefx := d.vrefx
  pwmx := d.pwmx
  reservedx := d.reservedx

/-- The machine right after reset, an `OPEN` answered `Ok` (70_reset_and_hazards R290, 10_state R46): the cache at the
installation's `DEFAULTS`, `cstate` idle, no error, empty ghost state, selectors 0xFF, the answer `(0, 0)` of that `OPEN` on
`RSP`. The installation is REFCFG (DESIGN CHOICE, notes/assumptions/5 and 7). No request is presented. -/
def State.reset : State where
  cfg := refcfg
  reqs := []
  env := { cmd := [], status := [], bulk := [], opens := [] }
  draws := { cmd := 0, status := 0, bulk := 0, opens := 0, bytes := 0 }
  cache := some (Cache.ofDefaults refcfg.defaults)
  cstate := .idle
  err := 0
  seq := 0
  outstanding := none
  rsp := some { err := 0, value := 0 }
  trace := []
  tsel := 0xFF
  asel := 0xFF
  auxa := 0xFF
  framelog := []
  buf := []

end Sys2Proof.Machine
end

