-- ==== Sys2Proof/Machine/Flags.lean ====
section
/-! DEFINITION. The error flags (60_exceptions.md): the bit of each class, how classes combine, and how a transport outcome
is classified. -/

namespace Sys2Proof.Machine

open Sys2Proof.Config

/-- The `err` value of a class (60_exceptions R260). -/
def ResultClass.flag : ResultClass → Byte
  | .ok => 0x00
  | .timeout => 0x01
  | .underrun => 0x02
  | .notFound => 0x04
  | .noSuchRegister => 0x08
  | .notSupported => 0x10
  | .generic => 0x20

/-- The classes of a list ORed together (60_exceptions R266, R267). -/
def orFlags : List ResultClass → Byte
  | [] => 0
  | r :: rs => r.flag ||| orFlags rs

/-- The class of a `CMD` or `STATUS` transaction (40_command_channel R133). -/
def commandClass : Transport → ResultClass
  | .ok => .ok
  | .timeout => .timeout
  | .error => .generic

/-- The class of a `BULK` transaction that asked for `n` bytes and received `k` (40_command_channel R133): without a
transport error a short read is `Underrun`, a read of no byte is `Generic`. -/
def bulkClass (n k : Nat) : Transport → ResultClass
  | .ok => if k = n then .ok else if 0 < k then .underrun else .generic
  | .timeout => .timeout
  | .error => .generic

/-- The class of the environment's answer to `OPEN` (45_cache_setters R243). -/
def openClass : OpenReply → ResultClass
  | .ok => .ok
  | .notFound => .notFound
  | .error => .generic

end Sys2Proof.Machine
end

