-- ==== Sys2Proof/Machine/Operands.lean ====
section
/-! DEFINITION. Operand assembly (30_encoding R110) and the command words built from operands (30_encoding R100 to R104,
R109, 41_register_access R142, R143, R150, R153), the translation of logical register ids (10_state R31 to R34), the cache
registers by index (10_state R21) and the frame-timing arithmetic (43_frame_timing R181 to R183). -/

namespace Sys2Proof.Machine

open Sys2Proof.Config

/-! ## Bytes (00_scope R12) -/

/-- `lo8(v) = v[7:0]` (R12). -/
def lo8 (v : Half) : Byte := v.extractLsb' 0 8

/-- `hi8(v) = v[15:8]` (R12). -/
def hi8 (v : Half) : Byte := v.extractLsb' 8 8

/-- `byte_k(v) = v[8k+7:8k]` (R12). -/
def byteOf (k : Nat) (v : Word32) : Byte := v.extractLsb' (8 * k) 8

/-! ## Command words -/

/-- `W8(B, p)` (30_encoding R101). -/
def w8 (base : CmdWord) (p : Byte) : CmdWord := base ||| p.setWidth 16

/-- `W12(B, p)` (30_encoding R101). -/
def w12 (base : CmdWord) (p : BitVec 12) : CmdWord := base ||| p.setWidth 16

/-- `V32Word(B, k, v)` (30_encoding R104). -/
def v32Word (base : CmdWord) (k : Nat) (v : Word32) : CmdWord :=
  (base + BitVec.ofNat 16 (k * 0x100)) ||| (byteOf k v).setWidth 16

/-- The selector value that deselects (30_encoding R103). -/
def deselect : Byte := 0xFF

/-- `CtlPayload(idx, d)` of the installation (30_encoding R102). -/
def ctlPayloadOf (P : Params) (idx : BitVec 3) (d : Bool) : Byte :=
  match P.ctlLayout with
  | .shifted => (idx.setWidth 8 <<< 1) ||| (BitVec.ofBool d).setWidth 8
  | .other k => Config.ctlPayload k idx d

/-- `CtlCode(code)` (41_register_access R142). -/
def ctlCode (P : Params) (code : Byte) : CmdWord := w8 P.ctlBase code

/-- `CtlWord(idx, d)` (41_register_access R142). -/
def ctlWord (P : Params) (idx : BitVec 3) (d : Bool) : CmdWord := w8 P.ctlBase (ctlPayloadOf P idx d)

/-- An analog-value data path (00_scope R16): channel 0 or channel 2. -/
inductive Channel where
  | ch0 | ch2
  deriving DecidableEq, Repr

/-- The base word of a channel (41_register_access R143). -/
def Channel.base (P : Params) : Channel → CmdWord
  | .ch0 => P.av0Base
  | .ch2 => P.av2Base

/-- `Chan16(c, v)`: low byte, then high byte (41_register_access R143, 20_memory R67). -/
def chan16 (P : Params) (c : Channel) (v : Half) : List CmdWord :=
  [w8 (c.base P) (lo8 v), w8 (c.base P) (hi8 v)]

/-- `Value32(B, v)`: most significant byte first (41_register_access R150, 20_memory R68). -/
def value32 (base : CmdWord) (v : Word32) : List CmdWord :=
  [v32Word base 3 v, v32Word base 2 v, v32Word base 1 v, v32Word base 0 v]

/-- `AuxWrite(a, b)`: select, data, reselect 0xFF (41_register_access R153). -/
def auxWrite (P : Params) (a b : Byte) : List CmdWord :=
  [w8 P.auxaBase a, w8 P.auxdBase b, w8 P.auxaBase deselect]

/-! ## Logical register ids (10_state R31 to R34, 20_memory R78) -/

/-- The control-bank index of a `BitRegister` id (10_state R31). -/
def bitIndex (P : Params) (id : Byte) : Option (BitVec 3) :=
  if id = 0x00 then some P.idxCooling
  else if id = 0x01 then some P.idxContinuous
  else if id = 0x02 then some P.idxExttrig
  else if id = 0x03 then some P.idxInvert
  else none

/-- The three sub-ranges of the 16-bit registers (10_state R32). -/
inductive SubRange where
  /-- Bank-select pairs. -/
  | a
  /-- P/I/D/SETTLE timing. -/
  | t
  /-- Extended analog. -/
  | x
  deriving DecidableEq, Repr

/-- The first id of a sub-range (10_state R32). -/
def SubRange.base : SubRange → Nat
  | .a => 0x10
  | .t => 0x20
  | .x => 0x30

/-- A 16-bit logical register: its sub-range and `k = id - base` (10_state R32). -/
structure Reg16 where
  sub : SubRange
  k : Fin 4
  deriving DecidableEq, Repr

/-- The id of a 16-bit register (10_state R32). -/
def Reg16.id (r : Reg16) : Byte := BitVec.ofNat 8 (r.sub.base + r.k.val)

/-- `pair = k / 2` (10_state R32). -/
def Reg16.pair (r : Reg16) : Nat := r.k.val / 2

/-- `c = 2 * (k % 2)` (10_state R32, 41_register_access R143). -/
def Reg16.channel (r : Reg16) : Channel := if r.k.val % 2 = 0 then .ch0 else .ch2

/-- The 16-bit register an id names (41_register_access R145). -/
def reg16Of (id : Byte) : Option Reg16 :=
  let n := id.toNat
  if h : 0x10 ≤ n ∧ n ≤ 0x13 then some { sub := .a, k := ⟨n - 0x10, by omega⟩ }
  else if h : 0x20 ≤ n ∧ n ≤ 0x23 then some { sub := .t, k := ⟨n - 0x20, by omega⟩ }
  else if h : 0x30 ≤ n ∧ n ≤ 0x33 then some { sub := .x, k := ⟨n - 0x30, by omega⟩ }
  else none

/-- The id of PWM (10_state R32). -/
def pwmReg : Reg16 := { sub := .a, k := 3 }

/-- The id of the sensor command word (10_state R33). -/
def sensorWordId : Byte := 0x50

/-- The auxiliary address of a readable register (10_state R34): TEMPERATURE 0x40, ADC_TYPE 0x41. -/
def auxAddress (P : Params) (id : Byte) : Option Byte :=
  if id = 0x40 then some P.auxTemperature
  else if id = 0x41 then some P.auxAdcType
  else none

/-- The ids of the write-only families (41_register_access R161). -/
def writeOnlyId (P : Params) (id : Byte) : Bool :=
  (bitIndex P id).isSome || (reg16Of id).isSome || id == sensorWordId

/-! ## Cache registers by index (10_state R21) -/

/-- A one-bit register zero-extended. -/
def flagWord (b : Bool) : Word32 := (BitVec.ofBool b).setWidth 32

/-- `zext_32(c[i])`, or nothing where `i` names no register: 30, 31, 35 and 44 up (10_state R21). -/
def Cache.read (c : Cache) (i : Byte) : Option Word32 :=
  match i.toNat with
  | 0 => some (flagWord c.gain)
  | 1 => some (flagWord c.xinv)
  | 2 => some (flagWord c.yinv)
  | 3 => some (flagWord c.linerepeat)
  | 4 => some (flagWord c.refout)
  | 5 => some (flagWord c.reset)
  | 6 => some (flagWord c.skim)
  | 7 => some c.power
  | 8 => some c.current
  | 9 => some c.bias
  | 10 => some c.bandwidth
  | 11 => some c.outputfactor
  | 12 => some (flagWord c.itr)
  | 13 => some (flagWord c.multiplereadouts)
  | 14 => some (flagWord c.nondestructive)
  | 15 => some c.itimeMs
  | 16 => some c.captureTimeoutMs
  | 17 => some (c.pwm.setWidth 32)
  | 18 => some (flagWord c.cooling)
  | 19 => some (flagWord c.continuous)
  | 20 => some (flagWord c.exttrig)
  | 21 => some (flagWord c.invert)
  | 22 => some (flagWord c.fan)
  | 23 => some (c.woiXs.setWidth 32)
  | 24 => some (c.woiYs.setWidth 32)
  | 25 => some (c.woiXe.setWidth 32)
  | 26 => some (c.woiYe.setWidth 32)
  | 27 => some (c.woiXinc.setWidth 32)
  | 28 => some (c.woiYinc.setWidth 32)
  | 29 => some (c.frameHz.setWidth 32)
  | 32 => some (c.adc.setWidth 32)
  | 33 => some (c.vref.setWidth 32)
  | 34 => some (c.vdet.setWidth 32)
  | 36 => some (c.pidP.setWidth 32)
  | 37 => some (c.pidI.setWidth 32)
  | 38 => some (c.pidD.setWidth 32)
  | 39 => some (c.pidSettle.setWidth 32)
  | 40 => some (c.vinx.setWidth 32)
  | 41 => some (c.vrefx.setWidth 32)
  | 42 => some (c.pwmx.setWidth 32)
  | 43 => some (c.reservedx.setWidth 32)
  | _ => none

/-- The cache with the mirror of a 16-bit register written (10_state R32). The PWM mirror is 12 bits wide and its only
writers have clamped the value (10_state R27). -/
def Cache.writeMirror (c : Cache) (r : Reg16) (v : Half) : Cache :=
  match r.sub, r.k with
  | .a, 0 => { c with adc := v }
  | .a, 1 => { c with vref := v }
  | .a, 2 => { c with vdet := v }
  | .a, 3 => { c with pwm := v.setWidth 12 }
  | .t, 0 => { c with pidP := v }
  | .t, 1 => { c with pidI := v }
  | .t, 2 => { c with pidD := v }
  | .t, 3 => { c with pidSettle := v }
  | .x, 0 => { c with vinx := v }
  | .x, 1 => { c with vrefx := v }
  | .x, 2 => { c with pwmx := v }
  | .x, 3 => { c with reservedx := v }

/-! ## Clamps, masks, conversions (30_encoding R110, R114) -/

/-- The PWM clamp, a signed comparison (45_cache_setters R230). -/
def clampPwm (v : Int) : Nat :=
  if v < 0 then 0 else if v > Config.maxPwm then Config.maxPwm else v.toNat

/-- `v & 0xFFF`, the mask of a window bound (44_capture R191). -/
def boundOf (v : Half) : BitVec 12 := v.setWidth 12

/-- `ticks = ms * 40000`, a 32-bit value (44_capture R192). -/
def ticksOf (ms : Nat) : Word32 := BitVec.ofNat 32 (ms * Config.ticksPerMs)

/-- The bulk timeout, twice the cached capture timeout (40_command_channel R134). -/
def bulkTimeout (c : Cache) : Nat := 2 * c.captureTimeoutMs.toNat

/-- `n = totalPixels / 81920` (44_capture R196). -/
def frameCount (totalPixels : Nat) : Nat := totalPixels / Config.framePixels

/-! ## Frame timing (43_frame_timing R181 to R183) -/

/-- `w = xe - xs + 1` on the cached bounds, a signed integer (R181). -/
def windowWidth (c : Cache) : Int := (c.woiXe.toNat : Int) - (c.woiXs.toNat : Int) + 1

/-- `h = ye - ys + 1` (R181). -/
def windowHeight (c : Cache) : Int := (c.woiYe.toNat : Int) - (c.woiYs.toNat : Int) + 1

/-- `hz' >= MaxRealRate` for an area of `area` pixels, in the integer form of R182. -/
def rateReached (hz area : Nat) : Bool :=
  decide (6220025 ^ 5000 ≤ (12 * hz) ^ 5000 * area ^ 3181)

/-- `clamp(RoundHalfAway(1000000 / hz'), 0, 65535)` in the integer form of R183. PRESUMED: the direction of a half;
unsafe for 128 Hz (notes/assumptions/20). -/
def frameDelay (hz : Nat) : Nat :=
  min (1000000 / hz + if hz ≤ 2 * (1000000 % hz) then 1 else 0) 65535

end Sys2Proof.Machine
end

