-- ==== Sys2Proof/Machine/Ops.lean ====
section
/-! DEFINITION. The named operations over the state: the frame buffer (20_memory R66), free values, the error accumulator
(60_exceptions R266), the three transactions of the Command Channel (40_command_channel.md), the start and the end of an
operation, reset and close. Every later action of an operation goes through `State.onward`, so that nothing follows a
transaction the environment never answers (60_exceptions R272). -/

namespace Sys2Proof.Machine

open Sys2Proof.Config

/-! ## The frame buffer -/

/-- The canonical form: addresses strictly rising, all inside the 32-bit address space (20_memory R66). -/
abbrev Memory.wf (m : Memory) : Prop :=
  m.Pairwise (fun a b => a.1 < b.1) ∧ ∀ c ∈ m, c.1 ≤ Config.lastBufAddr

/-- The byte at an address, or nothing where XCP has written none (the host's own content, R290). -/
def Memory.read (m : Memory) (a : Nat) : Option Byte := List.lookup a m

/-- Bytes at consecutive addresses, lowest address first (00_scope R13). -/
def cellsFrom (a : Nat) : List Byte → Memory
  | [] => []
  | b :: bs => (a, b) :: cellsFrom (a + 1) bs

/-- `MemWrite(addr, n, bytes)` (00_scope R13). -/
def Memory.write (m : Memory) (a : Nat) (bytes : List Byte) : Memory :=
  m.filter (fun c => decide (c.1 < a)) ++ (cellsFrom a bytes
    ++ m.filter (fun c => decide (a + bytes.length ≤ c.1)))

/-- The byte the frame buffer holds at an address, as far as XCP has written it. -/
def State.readBuf (s : State) (a : Nat) : Option Byte := Memory.read s.buf a

/-! ## The sequencer -/

/-- Blocked in a transaction the environment has not answered (60_exceptions R272). -/
def State.blocked (s : State) : Bool := s.outstanding.isSome

/-- The next action of an operation: taken unless the sequencer is blocked. -/
def State.onward (s : State) (f : State → State) : State := if s.blocked then s else f s

/-- Start of an operation: `err <- 0`, `seq` 0, no response yet (10_state R39, R40, 30_encoding R95). DEDUCED, unsafe: of every
operation, `GET` and the lifecycle included (notes/assumptions/13 and 18). -/
def State.begin (s : State) : State := { s with err := 0, seq := 0, rsp := none }

/-- TAKING AN ERROR, `raise E`: `err <- err | E` and nothing else (00_scope R13, 60_exceptions R266, R268). There is nothing
to return from: the next operation clears `err` (60_exceptions R269, `State.begin`). -/
def State.raise (s : State) (r : ResultClass) : State := { s with err := s.err ||| r.flag }

/-- The one response of an operation: the accumulated `err` and a value (10_state R39, 30_encoding R95). -/
def State.respond (s : State) (v : Word32) : State :=
  s.onward fun s => { s with rsp := some { err := s.err, value := v } }

/-- The cache replaced by `c`. -/
def State.storeCache (s : State) (c : Cache) : State := s.onward fun s => { s with cache := some c }

/-- The capture state replaced (44_capture R190). -/
def State.storeCstate (s : State) (q : CaptureState) : State := s.onward fun s => { s with cstate := q }

/-! ## Transactions (40_command_channel.md) -/

/-- The timeout handed to the environment with a transaction (40_command_channel R134). -/
def timeoutOf (P : Params) : Xfer → Nat
  | .cmd _ => P.ctrlTimeoutMs
  | .status => P.ctrlTimeoutMs
  | .bulk _ t => t

/-- The capture state while a transaction is outstanding: `Capturing` in a bulk read (44_capture R190). -/
def stateDuring (q : CaptureState) : Xfer → CaptureState
  | .cmd _ => q
  | .status => q
  | .bulk _ _ => .capturing

/-- An answered transaction: appended to `trace`, `seq <- seq + 1` (40_command_channel R130 to R132). -/
def State.answered (s : State) (x : Xfer) (r : ResultClass) : State :=
  { s with trace := s.trace ++ [{ xfer := x, result := r }], seq := s.seq + 1 }

/-- A transaction that is never answered: the sequencer stays in it (60_exceptions R272). DEDUCED, safe
(notes/assumptions/3). -/
def State.unanswered (s : State) (x : Xfer) : State :=
  { s with outstanding := some { xfer := x, timeoutMs := timeoutOf s.cfg x }, cstate := stateDuring s.cstate x }

/-- The environment's next answer on `CMD`: the settled one, else a free one. Either may be that it never answers
(60_exceptions R272). DESIGN CHOICE, safe (notes/assumptions/2). -/
def State.takeCommandReply (s : State) : Option Transport × State :=
  match s.env.cmd with
  | r :: rest => (r, { s with env := { s.env with cmd := rest } })
  | [] => (Config.commandReply s.draws.cmd, { s with draws := { s.draws with cmd := s.draws.cmd + 1 } })

/-- The environment's next answer on `STATUS`. -/
def State.takeStatusReply (s : State) : Option StatusReply × State :=
  match s.env.status with
  | r :: rest => (r, { s with env := { s.env with status := rest } })
  | [] => (Config.statusReply s.draws.status, { s with draws := { s.draws with status := s.draws.status + 1 } })

/-- The environment's next answer on `BULK`. -/
def State.takeBulkReply (s : State) : Option BulkReply × State :=
  match s.env.bulk with
  | r :: rest => (r, { s with env := { s.env with bulk := rest } })
  | [] => (Config.bulkReply s.draws.bulk, { s with draws := { s.draws with bulk := s.draws.bulk + 1 } })

/-- The environment's answer to `OPEN`, which always arrives. DESIGN CHOICE, unsafe (notes/assumptions/27). -/
def State.takeOpenReply (s : State) : OpenReply × State :=
  match s.env.opens with
  | r :: rest => (r, { s with env := { s.env with opens := rest } })
  | [] => (Config.openReply s.draws.opens, { s with draws := { s.draws with opens := s.draws.opens + 1 } })

/-- A word lies in the space of an 8-bit-payload base: its tag, bits 15:8, is the base's (30_encoding R100). -/
def inSpace (base w : CmdWord) : Bool := hi8 w == hi8 base

/-- The ghost selector images after an emitted word (10_state R42): a word that was sent counts as emitted whatever the
environment answered (40_command_channel R130). -/
def State.noteSelector (s : State) (w : CmdWord) : State :=
  { s with
    tsel := if inSpace s.cfg.tselBase w then lo8 w else s.tsel
    asel := if inSpace s.cfg.aselBase w then lo8 w else s.asel
    auxa := if inSpace s.cfg.auxaBase w then lo8 w else s.auxa }

/-- `Send(w)` (40_command_channel R130): one `CMD` transaction, its class ORed into `err`. -/
def State.send (s : State) (w : CmdWord) : State :=
  s.onward fun s =>
    match s.takeCommandReply with
    | (none, s) => s.unanswered (.cmd w)
    | (some t, s) => ((s.answered (.cmd w) (commandClass t)).raise (commandClass t)).noteSelector w

/-- `Emit([w1, ..., wn])`: the words in order, no early exit (00_scope R13). -/
def State.emit (s : State) (ws : List CmdWord) : State := ws.foldl State.send s

/-- `ValidOf(s[0])` of the installation (30_encoding R108). -/
def validOf (P : Params) (b0 : Byte) : Bool :=
  match P.validOf with
  | .always => true
  | .other k => Config.validTest k b0

/-- `TempOf(s[8], s[9])` of the installation (20_memory R71). -/
def tempOf (P : Params) (b8 b9 : Byte) : Half :=
  match P.tempOf with
  | .byte8Low => b9 ++ b8
  | .other k => Config.tempDecode k b8 b9

/-- `EepromSizeOf(s[1])` of the installation (30_encoding R108). -/
def eepromSizeOf (P : Params) (b1 : Byte) : Half :=
  match P.eepromSizeOf with
  | .identity => b1.setWidth 16
  | .other k => Config.eepromDecode k b1

/-- What a status read hands back: `(temperature, eepromSize)` (40_command_channel R131). -/
structure StatusValue where
  temperature : Half
  eepromSize : Half
  deriving DecidableEq, Repr

/-- The error class and the value of an answered status read (40_command_channel R131): a response with a bad validity byte
is `Generic`, and any failure gives `(0, 0)`. -/
def statusResult (P : Params) (r : StatusReply) : ResultClass × StatusValue :=
  match r.transport with
  | .ok =>
    if validOf P r.bytes[0] then
      (.ok, { temperature := tempOf P r.bytes[8] r.bytes[9], eepromSize := eepromSizeOf P r.bytes[1] })
    else (.generic, { temperature := 0, eepromSize := 0 })
  | .timeout => (.timeout, { temperature := 0, eepromSize := 0 })
  | .error => (.generic, { temperature := 0, eepromSize := 0 })

/-- `ReadStatus()` (40_command_channel R131): one `STATUS` transaction and the decoded pair. The trace holds the transaction's
own class; a failing validity byte is raised on top of it. Blocked, it hands back zeros nobody reads. -/
def State.readStatus (s : State) : State × StatusValue :=
  if s.blocked then (s, { temperature := 0, eepromSize := 0 }) else
  match s.takeStatusReply with
  | (none, s) => (s.unanswered .status, { temperature := 0, eepromSize := 0 })
  | (some r, s) =>
    (((s.answered .status (commandClass r.transport)).raise (commandClass r.transport)).raise (statusResult s.cfg r).1,
      (statusResult s.cfg r).2)

/-- What a bulk read hands back: its class and the bytes received, `0 <= k <= n` of them (40_command_channel R132). -/
structure Received where
  result : ResultClass
  bytes : List Byte
  deriving DecidableEq, Repr

/-- The answer to a bulk read of `n` bytes, cut at `n` and classified (40_command_channel R132, R133). DEDUCED, safe
(notes/assumptions/25). -/
def receive (n : Nat) (r : BulkReply) : Received :=
  { result := bulkClass n (r.bytes.take n).length r.transport, bytes := r.bytes.take n }

/-- `BulkRead(n, t)` (40_command_channel R132): one `BULK` transaction; it touches neither `err` nor the frame buffer nor the
cache. Nothing is handed back when the sequencer is blocked. -/
def State.bulkRead (s : State) (n t : Nat) : State × Option Received :=
  if s.blocked then (s, none) else
  match s.takeBulkReply with
  | (none, s) => (s.unanswered (.bulk n t), none)
  | (some r, s) => (s.answered (.bulk n t) (receive n r).result, some (receive n r))

/-! ## Bytes that hold any value -/

/-- `n` free bytes (44_capture R196, R197). DESIGN CHOICE, safe (notes/assumptions/10). -/
def State.drawBytes (s : State) (n : Nat) : List Byte × State :=
  ((List.range n).map fun j => Config.anyByte (s.draws.bytes + j),
    { s with draws := { s.draws with bytes := s.draws.bytes + n } })

/-- The bytes of a bulk read that are copied: all that arrived after `Ok` or `Underrun`, none otherwise
(44_capture R196, R197). -/
def Received.kept (r : Received) : List Byte :=
  match r.result with
  | .ok | .underrun => r.bytes
  | .timeout | .notFound | .noSuchRegister | .notSupported | .generic => []

/-- The frame-buffer region of a bulk read of `n` bytes to address `a`: the bytes received, then any values up to `n`
(44_capture R196, R197). -/
def State.fillRegion (s : State) (a n : Nat) (r : Received) : State :=
  let d := s.drawBytes (n - r.kept.length)
  { d.2 with buf := Memory.write s.buf a (r.kept ++ d.1) }

/-! ## Operations as a whole -/

/-- An operation other than `OPEN` is taken: refused while another runs (20_memory R80) and while closed (60_exceptions R275),
else run from a started state with the cache at hand. -/
def State.accept (s : State) (body : Cache → State → Host.Outcome State Fault Refusal) :
    Host.Outcome State Fault Refusal :=
  if s.blocked then .refused .requestWhileBusy else
  match s.cache with
  | none => .refused .deviceClosed
  | some c => body c s.begin

/-- Reset (70_reset_and_hazards R290): the cache at `DEFAULTS`, `cstate` idle, `err` and `seq` 0, ghost state empty, selectors
0xFF; the frame buffer and the host's side are untouched. -/
def State.resetByOpen (s : State) : State :=
  { s with
    cache := some (Cache.ofDefaults s.cfg.defaults)
    cstate := .idle
    err := 0
    seq := 0
    trace := []
    tsel := 0xFF
    asel := 0xFF
    auxa := 0xFF
    framelog := [] }

/-- Close: the cache is destroyed, nothing is emitted (45_cache_setters R244). DEDUCED, unsafe: the rest of the state stays
(notes/assumptions/19). -/
def State.destroyCache (s : State) : State := { s with cache := none }

/-! ## The request port -/

/-- The next request word on `REQ` and the state with it taken (00_scope R4). -/
def State.fetch (s : State) : Option (ReqWord × State) :=
  match s.reqs with
  | [] => none
  | w :: rest => some (w, { s with reqs := rest })

/-- The answer to an undecodable request: `NotSupported`, value 0, nothing else changes (30_encoding R93). DEDUCED, unsafe:
`err` and `seq` keep their values, and a closed XCP answers too (notes/assumptions/11 and 12). -/
def State.answerUndecodable (s : State) : State :=
  { s with rsp := some { err := ResultClass.notSupported.flag, value := 0 } }

end Sys2Proof.Machine
end

