-- ==== Sys2Proof/Machine/RegisterAccess.lean ====
section
/-! DEFINITION. The Register Access Layer (41_register_access.md): WRITE_BIT, WRITE16, WRITE32, READ16, and the word lists
and bodies the setters share with them. These four operations neither read nor write the cache (R141). -/

namespace Sys2Proof.Machine

open Sys2Proof.Config

/-- The bank-select code of a pair (R146). -/
def bankSelect (P : Params) (pair : Nat) : Byte := if pair % 2 = 0 then P.banksel0 else P.banksel1

/-- D and SETTLE, which deselect; P and I do not (R147). -/
def timingDeselects (r : Reg16) : Bool := decide (r.k.val = 2) || decide (r.k.val = 3)

/-- The words of a 16-bit write: sub-range A (R146), T (R147), X (R148). -/
def write16Words (P : Params) (r : Reg16) (v : Half) : List CmdWord :=
  match r.sub with
  | .a => [ctlCode P (bankSelect P r.pair)] ++ chan16 P r.channel v ++ [ctlCode P P.banksel0, ctlCode P P.banksel1]
  | .t => [w8 P.tselBase (BitVec.ofNat 8 r.pair)] ++ chan16 P r.channel v
      ++ if timingDeselects r then [w8 P.tselBase deselect] else []
  | .x => [w8 P.aselBase (BitVec.ofNat 8 r.pair)] ++ chan16 P r.channel v ++ [w8 P.aselBase deselect]

/-- The words of a sensor-word write: control-bank codes 6 then 3, then the value (R151). -/
def write32Words (P : Params) (v : Word32) : List CmdWord :=
  [ctlCode P 6, ctlCode P 3] ++ value32 P.w32Base v

/-- The body of a read of auxiliary address `a`: reset select, target select, status read, reset select, data 0 (R160). -/
def State.readAux (s : State) (a : Byte) : State :=
  let r := ((s.send (w8 s.cfg.auxaBase deselect)).send (w8 s.cfg.auxaBase a)).readStatus
  ((r.1.send (w8 s.cfg.auxaBase deselect)).send (w8 s.cfg.auxdBase 0x00)).respond (r.2.temperature.setWidth 32)

/-- `WRITE_BIT id, d` (R144). -/
def execWriteBit (id : Byte) (d : Bool) (s : State) : Host.Outcome State Fault Refusal :=
  s.accept fun _ s =>
    match bitIndex s.cfg id with
    | none => .next ((s.raise .noSuchRegister).respond 0)
    | some idx => .next ((s.send (ctlWord s.cfg idx d)).respond 0)

/-- `WRITE16 id, value` (R145 to R149). -/
def execWrite16 (id : Byte) (value : Half) (s : State) : Host.Outcome State Fault Refusal :=
  s.accept fun _ s =>
    match reg16Of id with
    | none => .next ((s.raise .noSuchRegister).respond 0)
    | some r => .next ((s.emit (write16Words s.cfg r value)).respond 0)

/-- `WRITE32 id, value` (R151, R152). -/
def execWrite32 (id : Byte) (value : Word32) (s : State) : Host.Outcome State Fault Refusal :=
  s.accept fun _ s =>
    if id = sensorWordId then .next ((s.emit (write32Words s.cfg value)).respond 0)
    else .next ((s.raise .noSuchRegister).respond 0)

/-- `READ16 id` (R160, R161). -/
def execRead16 (id : Byte) (s : State) : Host.Outcome State Fault Refusal :=
  s.accept fun _ s =>
    match auxAddress s.cfg id with
    | some a => .next (s.readAux a)
    | none =>
      if writeOnlyId s.cfg id then .next ((s.raise .notSupported).respond 0)
      else .next ((s.raise .noSuchRegister).respond 0)

end Sys2Proof.Machine
end

