-- ==== Sys2Proof/Machine/SensorWord.lean ====
section
/-! DEFINITION. The Sensor Command-Word Encoder (42_sensor_word.md): the pure packer and ENCODE_AND_SEND. -/

namespace Sys2Proof.Machine

open Sys2Proof.Config

/-- `OfCode(o)` (30_encoding R106). -/
def ofCode (o : Word32) : Word32 :=
  if o = 1 then 0 else if o = 2 then 2 else if o = 4 then 3 else 0

/-- `b(x)`, a one-bit field as a 32-bit value (R170). -/
def fieldBit (x : Bool) : Word32 := (BitVec.ofBool x).setWidth 32

/-- `Pack(f)`, the bitwise OR of every field shifted to its position (R170, 30_encoding R105, R107). -/
def pack (f : Cache) : Word32 :=
  (1 <<< 31)
    ||| (fieldBit f.itr <<< 29)
    ||| (fieldBit f.gain <<< 28)
    ||| ((f.power &&& 3) <<< 26)
    ||| ((f.current &&& 7) <<< 23)
    ||| ((f.bias &&& 7) <<< 20)
    ||| ((f.bandwidth &&& 3) <<< 18)
    ||| (fieldBit f.multiplereadouts <<< 17)
    ||| (fieldBit f.nondestructive <<< 16)
    ||| (fieldBit (!f.xinv) <<< 7)
    ||| (fieldBit (!f.yinv) <<< 6)
    ||| (fieldBit f.linerepeat <<< 5)
    ||| (ofCode f.outputfactor <<< 3)
    ||| (fieldBit f.refout <<< 2)
    ||| (fieldBit f.reset <<< 1)
    ||| fieldBit f.skim

/-- The fourteen words of ENCODE_AND_SEND: the sensor word twice, then the two pixel-correction words (R173, R174). -/
def encodeWords (P : Params) (flags : Cache) : List CmdWord :=
  write32Words P (pack flags) ++ write32Words P (pack flags) ++ [ctlCode P P.pixcorrOffA, ctlCode P P.pixcorrOffB]

/-- The body `encode_and_send(flags)` (R173), which the flag setters call too (44_capture R198): its words are a function of its
argument, the CW9808 group of `flags`, and it neither reads nor writes the cache XCP holds (41_register_access R140, R141). -/
def State.encodeAndSend (s : State) (flags : Cache) : State := s.emit (encodeWords s.cfg flags)

/-- `ENCODE_AND_SEND` (R173): the body, whose `flags` a request has no operand for; they are the cache's `c[0]` to `c[14]`.
The cache is not written; no settle. DEDUCED, unsafe: R141 is taken of the body, R173 of the request's operand
(notes/assumptions/29). -/
def execEncodeAndSend (s : State) : Host.Outcome State Fault Refusal :=
  s.accept fun c s => .next ((s.encodeAndSend c).respond 0)

end Sys2Proof.Machine
end

