-- ==== Sys2Proof/Machine/Capture.lean ====
section
/-! DEFINITION. The Capture State Machine (44_capture.md, sections 1 to 4): settle, capture mode, window, integration time,
captures. -/

namespace Sys2Proof.Machine

open Sys2Proof.Config

/-- `Settle()` (R193): exactly one full frame read and dropped, its class ORed into `err`; `c` is the cache as it stands. -/
def State.settle (s : State) (c : Cache) : State :=
  let r := s.bulkRead Config.frameBytes (bulkTimeout c)
  match r.2 with
  | some got => r.1.raise got.result
  | none => r.1

/-- `SET_CAPTURE_MODE` (R195). -/
def execSetCaptureMode (s : State) : Host.Outcome State Fault Refusal :=
  s.accept fun c s =>
    .next ((((s.emit [ctlWord s.cfg s.cfg.idxContinuous true, ctlWord s.cfg s.cfg.idxExttrig false]).storeCache
      { c with continuous := true, exttrig := false }).storeCstate .configured).respond 0)

/-- The six window words (30_encoding R109, R191). -/
def woiWords (P : Params) (xs ys xe ye : Half) : List CmdWord :=
  [w12 P.woiXsBase (boundOf xs), w12 P.woiYsBase (boundOf ys), w12 P.woiXeBase (boundOf xe),
    w12 P.woiYeBase (boundOf ye), w12 P.woiXincBase 1, w12 P.woiYincBase 1]

/-- `SET_WOI xs, ys, xe, ye` (R191): no range check, masked bounds sent and cached. -/
def execSetWoi (xs ys xe ye : Half) (s : State) : Host.Outcome State Fault Refusal :=
  s.accept fun c s =>
    .next (((s.emit (woiWords s.cfg xs ys xe ye)).storeCache
      { c with
        woiXs := boundOf xs, woiYs := boundOf ys, woiXe := boundOf xe, woiYe := boundOf ye
        woiXinc := 1, woiYinc := 1 }).respond 0)

/-- The words of an integration-time write (R192). -/
def itimeWords (P : Params) (ms : Nat) : List CmdWord :=
  P.itimePre.map (ctlCode P) ++ value32 P.itimeBase (ticksOf ms)

/-- The cache after an integration-time write (R192): the time and the capture timeout. -/
def Cache.withItime (c : Cache) (ms : Nat) : Cache :=
  { c with itimeMs := BitVec.ofNat 32 ms, captureTimeoutMs := BitVec.ofNat 32 (Config.baseTimeoutMs + ms) }

/-- `SET_ITIME_INTERNAL ms` (R192): words, then cache; no settle. -/
def execSetItimeInternal (ms : Nat) (s : State) : Host.Outcome State Fault Refusal :=
  s.accept fun c s =>
    if Config.maxItimeMs < ms then .refused .integrationTimeTooLong
    else .next (((s.emit (itimeWords s.cfg ms)).storeCache (c.withItime ms)).respond 0)

/-- `SET_ITIME ms` (R194): the internal body, then a settle with the new timeout. -/
def execSetItime (ms : Nat) (s : State) : Host.Outcome State Fault Refusal :=
  s.accept fun c s =>
    if Config.maxItimeMs < ms then .refused .integrationTimeTooLong
    else .next ((((s.emit (itimeWords s.cfg ms)).storeCache (c.withItime ms)).settle (c.withItime ms)).respond 0)

/-- A class appended to the frame log (10_state R43). -/
def State.logFrame (s : State) (r : ResultClass) : State := { s with framelog := s.framelog ++ [r] }

/-- One frame of `CAPTURE_FRAMES` into the region at `a` (R196): its class goes to the frame log only. -/
def State.captureFrame (s : State) (a t : Nat) : State :=
  let r := s.bulkRead Config.frameBytes t
  match r.2 with
  | some got => (r.1.logFrame got.result).fillRegion a Config.frameBytes got
  | none => r.1

/-- `n` frames into contiguous regions from `a` (R196): a failed frame does not shorten the loop. -/
def State.captureLoop (s : State) (t : Nat) : Nat → Nat → State
  | 0, _ => s
  | n + 1, a => (s.captureFrame a t).captureLoop t n (a + Config.frameBytes)

/-- `CAPTURE_FRAMES buf, totalPixels` (R196). -/
def execCaptureFrames (buf totalPixels : Nat) (s : State) : Host.Outcome State Fault Refusal :=
  s.accept fun c s =>
    if 0 < frameCount totalPixels ∧ Config.lastBufAddr < buf + frameCount totalPixels * Config.frameBytes - 1 then
      .refused .captureBeyondBuffer
    else
      .next ((({ s with framelog := [] } : State).captureLoop (bulkTimeout c) (frameCount totalPixels) buf).respond 0)

/-- The body of `CAPTURE_DATA` for a positive length (R197): one bulk read, its class reported, the byte count answered. -/
def State.captureBytes (s : State) (a n t : Nat) : State :=
  let r := s.bulkRead n t
  match r.2 with
  | some got => ((r.1.raise got.result).fillRegion a n got).respond (BitVec.ofNat 32 got.bytes.length)
  | none => r.1

/-- `CAPTURE_DATA buf, length` (R197). -/
def execCaptureData (buf length : Nat) (s : State) : Host.Outcome State Fault Refusal :=
  s.accept fun c s =>
    if length = 0 then .next (s.respond 0)
    else if Config.lastBufAddr < buf + length - 1 then .refused .captureBeyondBuffer
    else .next (s.captureBytes buf length (bulkTimeout c))

end Sys2Proof.Machine
end

