-- ==== Sys2Proof/Machine/CacheOps.lean ====
section
/-! DEFINITION. The Camera State Cache operations and the lifecycle (45_cache_setters.md). -/

namespace Sys2Proof.Machine

open Sys2Proof.Config

/-- The body of `SET_PWM` (R230): the clamped value is written and stored. -/
def State.pwmBody (s : State) (c : Cache) (v : Int) : State :=
  ((s.emit (write16Words s.cfg pwmReg (BitVec.ofNat 16 (clampPwm v)))).storeCache
    (c.writeMirror pwmReg (BitVec.ofNat 16 (clampPwm v)))).respond 0

/-- `SET_PWM v` (R230). -/
def execSetPwm (v : Int) (s : State) : Host.Outcome State Fault Refusal :=
  s.accept fun c s => .next (s.pwmBody c v)

/-- `SET_COOLING v` (R231): one word, then the cache. -/
def execSetCooling (v : Bool) (s : State) : Host.Outcome State Fault Refusal :=
  s.accept fun c s =>
    .next (((s.send (ctlWord s.cfg s.cfg.idxCooling v)).storeCache { c with cooling := v }).respond 0)

/-- `SET_IMAGE_INVERT v` (R232): one word, then the cache. -/
def execSetImageInvert (v : Bool) (s : State) : Host.Outcome State Fault Refusal :=
  s.accept fun c s =>
    .next (((s.send (ctlWord s.cfg s.cfg.idxInvert v)).storeCache { c with invert := v }).respond 0)

/-- `SET_ANALOG id, value` (R233): PWM goes through the clamp, the other registers are written and mirrored. -/
def execSetAnalog (id : Byte) (value : Half) (s : State) : Host.Outcome State Fault Refusal :=
  s.accept fun c s =>
    match reg16Of id with
    | none => .next ((s.raise .noSuchRegister).respond 0)
    | some r =>
      if r = pwmReg then .next (s.pwmBody c (value.toNat : Int))
      else .next (((s.emit (write16Words s.cfg r value)).storeCache (c.writeMirror r value)).respond 0)

/-- `GET i` (R240): the cached value, no transaction. -/
def execGet (i : Byte) (s : State) : Host.Outcome State Fault Refusal :=
  s.accept fun c s =>
    match c.read i with
    | some v => .next (s.respond v)
    | none => .next ((s.raise .noSuchRegister).respond 0)

/-- `GET_TEMPERATURE_ADU` (R241): `READ16 TEMPERATURE`, not cached. -/
def execGetTemperatureAdu (s : State) : Host.Outcome State Fault Refusal :=
  s.accept fun _ s => .next (s.readAux s.cfg.auxTemperature)

/-- `GET_TEMPERATURE_ADC_TYPE` (R242): `READ16 ADC_TYPE`, not cached. -/
def execGetTemperatureAdcType (s : State) : Host.Outcome State Fault Refusal :=
  s.accept fun _ s => .next (s.readAux s.cfg.auxAdcType)

/-- `OPEN` (R243): refused while open; answered `Ok` it is the reset event (70_reset_and_hazards R290), answered otherwise
nothing opens. It emits no word. -/
def execOpenDevice (s : State) : Host.Outcome State Fault Refusal :=
  if s.blocked then .refused .requestWhileBusy
  else if s.opened then .refused .alreadyOpen
  else
    let r := s.begin.takeOpenReply
    match r.1 with
    | .ok => .next (r.2.resetByOpen.respond 0)
    | .notFound => .next ((r.2.raise (openClass .notFound)).respond 0)
    | .error => .next ((r.2.raise (openClass .error)).respond 0)

/-- `CLOSE` (R244): the cache is destroyed; nothing is emitted. -/
def execCloseDevice (s : State) : Host.Outcome State Fault Refusal :=
  s.accept fun _ s => .next (s.destroyCache.respond 0)

end Sys2Proof.Machine
end

