-- ==== Sys2Proof/Machine/FlagSetters.lean ====
section
/-! DEFINITION. The fifteen CW9808 flag setters (44_capture.md, section 5): one template (R198), one definition each. -/

namespace Sys2Proof.Machine

/-- The template of R198: the cache field first, then the body of ENCODE_AND_SEND over the new cache, then a settle. -/
def State.flagSetter (s : State) (set : Cache → Cache) : Host.Outcome State Fault Refusal :=
  s.accept fun c s =>
    .next ((((s.storeCache (set c)).encodeAndSend (set c)).settle (set c)).respond 0)

/-- `SET_GAIN v` (R200): `c.gain`, sensor-word bits 28. -/
def execSetGain (v : Bool) (s : State) : Host.Outcome State Fault Refusal :=
  s.flagSetter fun c => { c with gain := v }

/-- `SET_XINV v` (R201): `c.xinv`, sensor-word bits 7, inverted. -/
def execSetXinv (v : Bool) (s : State) : Host.Outcome State Fault Refusal :=
  s.flagSetter fun c => { c with xinv := v }

/-- `SET_YINV v` (R202): `c.yinv`, sensor-word bits 6, inverted. -/
def execSetYinv (v : Bool) (s : State) : Host.Outcome State Fault Refusal :=
  s.flagSetter fun c => { c with yinv := v }

/-- `SET_LINEREPEAT v` (R203): `c.linerepeat`, sensor-word bits 5. -/
def execSetLinerepeat (v : Bool) (s : State) : Host.Outcome State Fault Refusal :=
  s.flagSetter fun c => { c with linerepeat := v }

/-- `SET_REFOUT v` (R204): `c.refout`, sensor-word bits 2. -/
def execSetRefout (v : Bool) (s : State) : Host.Outcome State Fault Refusal :=
  s.flagSetter fun c => { c with refout := v }

/-- `SET_RESET v` (R205): `c.reset`, sensor-word bits 1; it does not reset XCP. -/
def execSetReset (v : Bool) (s : State) : Host.Outcome State Fault Refusal :=
  s.flagSetter fun c => { c with reset := v }

/-- `SET_SKIM v` (R206): `c.skim`, sensor-word bits 0. -/
def execSetSkim (v : Bool) (s : State) : Host.Outcome State Fault Refusal :=
  s.flagSetter fun c => { c with skim := v }

/-- `SET_POWER v` (R207): `c.power`, sensor-word bits 27:26, masked when packed. -/
def execSetPower (v : Word32) (s : State) : Host.Outcome State Fault Refusal :=
  s.flagSetter fun c => { c with power := v }

/-- `SET_CURRENT v` (R208): `c.current`, sensor-word bits 25:23, masked when packed. -/
def execSetCurrent (v : Word32) (s : State) : Host.Outcome State Fault Refusal :=
  s.flagSetter fun c => { c with current := v }

/-- `SET_BIAS v` (R209): `c.bias`, sensor-word bits 22:20, masked when packed. -/
def execSetBias (v : Word32) (s : State) : Host.Outcome State Fault Refusal :=
  s.flagSetter fun c => { c with bias := v }

/-- `SET_BANDWIDTH v` (R210): `c.bandwidth`, sensor-word bits 19:18, masked when packed. -/
def execSetBandwidth (v : Word32) (s : State) : Host.Outcome State Fault Refusal :=
  s.flagSetter fun c => { c with bandwidth := v }

/-- `SET_OUTPUTFACTOR v` (R211): `c.outputfactor`, sensor-word bits 4:3, by OfCode. -/
def execSetOutputfactor (v : Word32) (s : State) : Host.Outcome State Fault Refusal :=
  s.flagSetter fun c => { c with outputfactor := v }

/-- `SET_ITR v` (R212): `c.itr`, sensor-word bits 29. -/
def execSetItr (v : Bool) (s : State) : Host.Outcome State Fault Refusal :=
  s.flagSetter fun c => { c with itr := v }

/-- `SET_MULTIPLEREADOUTS v` (R213): `c.multiplereadouts`, sensor-word bits 17. -/
def execSetMultiplereadouts (v : Bool) (s : State) : Host.Outcome State Fault Refusal :=
  s.flagSetter fun c => { c with multiplereadouts := v }

/-- `SET_NONDESTRUCTIVE v` (R214): `c.nondestructive`, sensor-word bits 16. -/
def execSetNondestructive (v : Bool) (s : State) : Host.Outcome State Fault Refusal :=
  s.flagSetter fun c => { c with nondestructive := v }

end Sys2Proof.Machine
end

