-- ==== Sys2Proof/Machine/FrameTiming.lean ====
section
/-! DEFINITION. The Frame-Timing Controller (43_frame_timing.md): SET_FRAME_RATE. -/

namespace Sys2Proof.Machine

open Sys2Proof.Config

/-- `hz' = min(hz, 350)` (R180). -/
def cappedRate (hz : Nat) : Nat := min hz Config.maxHz

/-- `useDelay` for the cached window, once its width and height are positive (R180 to R182). -/
def useDelay (c : Cache) (hz : Nat) : Bool :=
  !rateReached hz ((windowWidth c).toNat * (windowHeight c).toNat)

/-- The words of SET_FRAME_RATE (R184): the two delay registers, high byte first, when a delay is used; the enable word
always. -/
def frameRateWords (P : Params) (delayed : Bool) (hz : Nat) : List CmdWord :=
  (if delayed then
    auxWrite P P.auxDelayHi (hi8 (BitVec.ofNat 16 (frameDelay hz)))
      ++ auxWrite P P.auxDelayLo (lo8 (BitVec.ofNat 16 (frameDelay hz)))
  else []) ++ [ctlWord P P.idxDelayEn delayed]

/-- `SET_FRAME_RATE hz` (R180 to R186): the words, then `c.frame_hz`, whatever `err` is. -/
def execSetFrameRate (hz : Nat) (s : State) : Host.Outcome State Fault Refusal :=
  s.accept fun c s =>
    if hz = 0 then .refused .zeroFrameRate
    else if windowWidth c ≤ 0 ∨ windowHeight c ≤ 0 then .refused .invertedWindow
    else
      .next (((s.emit (frameRateWords s.cfg (useDelay c (cappedRate hz)) (cappedRate hz))).storeCache
        { c with frameHz := BitVec.ofNat 16 (cappedRate hz) }).respond 0)

end Sys2Proof.Machine
end

