-- ==== Sys2Proof/Machine/Dispatch.lean ====
section
/-! DEFINITION. The meaning of each operation: one arm per constructor, each one call of its own definition. -/

namespace Sys2Proof.Machine

def exec (i : Instr) (s : State) : Host.Outcome State Fault Refusal :=
  match i with
  | .writeBit id d => Sys2Proof.Machine.execWriteBit id d s
  | .write16 id value => Sys2Proof.Machine.execWrite16 id value s
  | .write32 id value => Sys2Proof.Machine.execWrite32 id value s
  | .read16 id => Sys2Proof.Machine.execRead16 id s
  | .encodeAndSend => Sys2Proof.Machine.execEncodeAndSend s
  | .setFrameRate hz => Sys2Proof.Machine.execSetFrameRate hz s
  | .setCaptureMode => Sys2Proof.Machine.execSetCaptureMode s
  | .setWoi xs ys xe ye => Sys2Proof.Machine.execSetWoi xs ys xe ye s
  | .setItimeInternal ms => Sys2Proof.Machine.execSetItimeInternal ms s
  | .setItime ms => Sys2Proof.Machine.execSetItime ms s
  | .captureFrames buf totalPixels => Sys2Proof.Machine.execCaptureFrames buf totalPixels s
  | .captureData buf length => Sys2Proof.Machine.execCaptureData buf length s
  | .setGain v => Sys2Proof.Machine.execSetGain v s
  | .setXinv v => Sys2Proof.Machine.execSetXinv v s
  | .setYinv v => Sys2Proof.Machine.execSetYinv v s
  | .setLinerepeat v => Sys2Proof.Machine.execSetLinerepeat v s
  | .setRefout v => Sys2Proof.Machine.execSetRefout v s
  | .setReset v => Sys2Proof.Machine.execSetReset v s
  | .setSkim v => Sys2Proof.Machine.execSetSkim v s
  | .setPower v => Sys2Proof.Machine.execSetPower v s
  | .setCurrent v => Sys2Proof.Machine.execSetCurrent v s
  | .setBias v => Sys2Proof.Machine.execSetBias v s
  | .setBandwidth v => Sys2Proof.Machine.execSetBandwidth v s
  | .setOutputfactor v => Sys2Proof.Machine.execSetOutputfactor v s
  | .setItr v => Sys2Proof.Machine.execSetItr v s
  | .setMultiplereadouts v => Sys2Proof.Machine.execSetMultiplereadouts v s
  | .setNondestructive v => Sys2Proof.Machine.execSetNondestructive v s
  | .setPwm v => Sys2Proof.Machine.execSetPwm v s
  | .setCooling v => Sys2Proof.Machine.execSetCooling v s
  | .setImageInvert v => Sys2Proof.Machine.execSetImageInvert v s
  | .setAnalog id value => Sys2Proof.Machine.execSetAnalog id value s
  | .get ix => Sys2Proof.Machine.execGet ix s
  | .getTemperatureAdu => Sys2Proof.Machine.execGetTemperatureAdu s
  | .getTemperatureAdcType => Sys2Proof.Machine.execGetTemperatureAdcType s
  | .openDevice => Sys2Proof.Machine.execOpenDevice s
  | .closeDevice => Sys2Proof.Machine.execCloseDevice s

end Sys2Proof.Machine
end

