-- ==== Sys2Proof/Machine/Step.lean ====
section
/-! DEFINITION. One step of XCP: one request of the host, run to completion (20_memory R79). -/

namespace Sys2Proof.Machine

/-- One step. With no request on `REQ` nothing happens: XCP is idle, or blocked in a transaction without an answer
(60_exceptions R272, R285). A request presented while one is running is refused (20_memory R80). A request that decodes is
executed; one that does not is answered `NotSupported` (30_encoding R93). DESIGN CHOICE, safe: the step without a request
(notes/assumptions/31). DEDUCED, safe: a request present while blocked is a second one (notes/assumptions/4). -/
def step (s : State) : Host.Outcome State Fault Refusal :=
  match s.fetch with
  | none => .next s
  | some (w, s') =>
    if s.blocked then .refused .requestWhileBusy else
    match decode w with
    | .ok i => exec i s'
    | .error _ => .next s'.answerUndecodable

/-- `s` with the request word whose low `nbits` bits are `w`, as the table numbers them, presented next on `REQ`
(notes/assumptions/17). -/
def State.withFetchWord (s : State) (nbits w : Nat) : State :=
  { s with reqs := BitVec.ofNat 80 (w % 2 ^ nbits) :: s.reqs }

end Sys2Proof.Machine
end

