-- ==== Sys2Proof/Machine/TraceReading.lean ====
section
/-! DEFINITION. Reading a trace back (30_encoding R113) and the inverse of a 16-bit write (41_register_access R162). No
operation uses these; they say what the emitted words determine under the constraints of 20_memory R77. -/

namespace Sys2Proof.Machine

open Sys2Proof.Config

/-- The groups a command word can lie in: the eight spaces of 20_memory R61, the two 32-bit writers and the six window words
of R62. -/
inductive Space where
  | ctl | auxa | auxd | av0 | av2 | asel | tsel | misc | w32 | itime
  | woiXs | woiYs | woiXe | woiYe | woiXinc | woiYinc
  deriving DecidableEq, Repr

/-- The base word of a group (R10). -/
def Space.base (P : Params) : Space → CmdWord
  | .ctl => P.ctlBase
  | .auxa => P.auxaBase
  | .auxd => P.auxdBase
  | .av0 => P.av0Base
  | .av2 => P.av2Base
  | .asel => P.aselBase
  | .tsel => P.tselBase
  | .misc => P.miscBase
  | .w32 => P.w32Base
  | .itime => P.itimeBase
  | .woiXs => P.woiXsBase
  | .woiYs => P.woiYsBase
  | .woiXe => P.woiXeBase
  | .woiYe => P.woiYeBase
  | .woiXinc => P.woiXincBase
  | .woiYinc => P.woiYincBase

/-- How many words a group has: 8 payload bits, 2 + 8 bits of the 32-bit writer, 12 payload bits (R61, R62). -/
def Space.size : Space → Nat
  | .ctl | .auxa | .auxd | .av0 | .av2 | .asel | .tsel | .misc => 0x100
  | .w32 | .itime => 0x400
  | .woiXs | .woiYs | .woiXe | .woiYe | .woiXinc | .woiYinc => 0x1000

/-- Every group, in the order of R61 and R62. -/
def Space.all : List Space :=
  [.ctl, .auxa, .auxd, .av0, .av2, .asel, .tsel, .misc, .w32, .itime, .woiXs, .woiYs, .woiXe, .woiYe, .woiXinc, .woiYinc]

/-- A word lies in a group (R100). -/
def Space.holds (P : Params) (w : CmdWord) (g : Space) : Bool :=
  decide ((g.base P).toNat ≤ w.toNat) && decide (w.toNat < (g.base P).toNat + g.size)

/-- The group of a word and its offset from the group's base (R113). -/
def parseWord (P : Params) (w : CmdWord) : Option (Space × Nat) :=
  (Space.all.find? (Space.holds P w)).map fun g => (g, w.toNat - (g.base P).toNat)

/-- The register-layer sequences R113 recognises by their first words. -/
inductive SequenceKind where
  | write16A | write16T | write16X | sensorWord | auxRead
  deriving DecidableEq, Repr

/-- The sequence that begins a list of words (R113). -/
def firstSequence (P : Params) (ws : List CmdWord) : Option SequenceKind :=
  match ws.map (parseWord P) with
  | some (.tsel, p) :: _ => if p ≠ 0xFF then some .write16T else none
  | some (.asel, p) :: _ => if p ≠ 0xFF then some .write16X else none
  | some (.auxa, 0xFF) :: some (.auxa, _) :: _ => some .auxRead
  | some (.ctl, p) :: some (.av0, _) :: _ =>
    if p = P.banksel0.toNat ∨ p = P.banksel1.toNat then some .write16A else none
  | some (.ctl, p) :: some (.av2, _) :: _ =>
    if p = P.banksel0.toNat ∨ p = P.banksel1.toNat then some .write16A else none
  | some (.ctl, 6) :: some (.ctl, 3) :: some (.w32, k) :: _ => if 0x300 ≤ k then some .sensorWord else none
  | _ => none

/-- The number of words of a recognised sequence (R99, R113); a timing sequence has four exactly when its payload is that of
D and SETTLE. -/
def sequenceLength (P : Params) (ws : List CmdWord) : Option Nat :=
  match firstSequence P ws, ws.map (parseWord P) with
  | some .write16A, _ => some 5
  | some .write16T, some (_, p) :: _ => some (if p = 0 then 3 else 4)
  | some .write16X, _ => some 4
  | some .sensorWord, _ => some 6
  | some .auxRead, _ => some 4
  | _, _ => none

/-- The sub-range and pair that the first word of a 16-bit write names (R162). -/
def headOf16 (P : Params) : Option (Space × Nat) → Option (SubRange × Nat)
  | some (.ctl, p) =>
    if p = P.banksel0.toNat then some (.a, 0) else if p = P.banksel1.toNat then some (.a, 1) else none
  | some (.tsel, p) => some (.t, p)
  | some (.asel, p) => some (.x, p)
  | _ => none

/-- The channel of an analog-value word, as `channel / 2` (R162). -/
def channelBitOf : Option (Space × Nat) → Option Nat
  | some (.av0, _) => some 0
  | some (.av2, _) => some 1
  | _ => none

/-- `Decode16(seq)` (R162): the id and value of a well-formed `WRITE16` sequence. -/
def decode16 (P : Params) : List CmdWord → Option (Byte × Half)
  | w0 :: d0 :: d1 :: _ =>
    match headOf16 P (parseWord P w0), channelBitOf (parseWord P d0) with
    | some (sub, pair), some c => some (BitVec.ofNat 8 (sub.base + 2 * pair + c), lo8 d1 ++ lo8 d0)
    | _, _ => none
  | _ => none

end Sys2Proof.Machine
end

