-- ==== Sys2Proof/Safety.lean ====
section
/-! DEFINITION. What counts as a completed operation and as a safe state, in the terms the statements use. -/

namespace Sys2Proof.Machine

open Sys2Proof.Config

/-! ## What the environment answers from a state on -/

/-- The answers of the environment to the transactions to come, numbered from 0 on each port; `none` is a transaction it never
answers (60_exceptions R272). No part of the state: a name for what the state's queues and free values say. -/
structure Replies where
  cmd : Nat → Option Transport
  status : Nat → Option StatusReply
  bulk : Nat → Option BulkReply

/-- The answers that follow `s`: those of the queues, in order, then the free ones (notes/assumptions/2). -/
def State.replies (s : State) : Replies where
  cmd k := match s.env.cmd[k]? with
    | some r => r
    | none => Config.commandReply (s.draws.cmd + (k - s.env.cmd.length))
  status k := match s.env.status[k]? with
    | some r => r
    | none => Config.statusReply (s.draws.status + (k - s.env.status.length))
  bulk k := match s.env.bulk[k]? with
    | some r => r
    | none => Config.bulkReply (s.draws.bulk + (k - s.env.bulk.length))

/-- The answers that follow one transaction: its port's first is used up. -/
def Replies.after (r : Replies) : Xfer → Replies
  | .cmd _ => { r with cmd := fun k => r.cmd (k + 1) }
  | .status => { r with status := fun k => r.status (k + 1) }
  | .bulk _ _ => { r with bulk := fun k => r.bulk (k + 1) }

/-- The answers that follow a list of transactions. -/
def Replies.afterAll (r : Replies) (xs : List Xfer) : Replies := xs.foldl Replies.after r

/-- The class the next transaction is answered with (40_command_channel R130 to R133), of a bulk read by the bytes that
arrived, of which at most the count asked for are received; `none` where it is never answered. -/
def Replies.classOf (r : Replies) : Xfer → Option ResultClass
  | .cmd _ => (r.cmd 0).map commandClass
  | .status => (r.status 0).map fun a => commandClass a.transport
  | .bulk n _ => (r.bulk 0).map fun a => bulkClass n (min n a.bytes.length) a.transport

/-- The classes a list of transactions is answered with; `none` where one of them is never answered. -/
def Replies.classes (r : Replies) : List Xfer → Option (List ResultClass)
  | [] => some []
  | x :: xs => (r.classOf x).bind fun q => ((r.after x).classes xs).map fun qs => q :: qs

/-- From `s` on, the environment answers each of the transactions `xs`, with the classes `rs`. -/
abbrev Answered (s : State) (xs : List Xfer) (rs : List ResultClass) : Prop := s.replies.classes xs = some rs

/-! ## When and how an operation executes -/

/-- XCP is open with cache `c` and idle: the condition for an operation to be taken. -/
abbrev Available (s : State) (c : Cache) : Prop := s.outstanding = none ∧ s.cache = some c

/-- XCP is open with cache `c`, idle, in an installation that meets 20_memory R77: the condition under which the selector
images are what 41_register_access says. -/
abbrev Ready (s : State) (c : Cache) : Prop := Available s c ∧ s.cfg.Admissible

/-- The trace events of the transactions `xs` answered with the classes `rs`. -/
def eventsOf (xs : List Xfer) (rs : List ResultClass) : List Event := List.zipWith Event.mk xs rs

/-- From `s` the operation has emitted exactly the transactions `xs`, in order, answered with the classes `rs`, and has
answered its request: `trace`, `seq` and the response (10_state R40, R41, 30_encoding R95). Each transaction has used up one
answer of the environment. -/
structure Emitted (s t : State) (xs : List Xfer) (rs : List ResultClass) (value : Word32) : Prop where
  answers : rs.length = xs.length
  trace : t.trace = s.trace ++ eventsOf xs rs
  seq : t.seq = xs.length
  rsp : t.rsp = some { err := t.err, value := value }
  idle : t.outstanding = none
  replies : t.replies = s.replies.afterAll xs

/-- What no operation but the lifecycle, the two captures and the capture-mode setter writes: the installation, the requests
to come, the capture state, the frame log and every byte of the frame buffer. -/
structure Untouched (s t : State) : Prop where
  cfg : t.cfg = s.cfg
  reqs : t.reqs = s.reqs
  cstate : t.cstate = s.cstate
  framelog : t.framelog = s.framelog
  buf : ∀ a, t.readBuf a = s.readBuf a

/-- Command words as transactions. -/
def sent (ws : List CmdWord) : List Xfer := ws.map .cmd

/-- The operation `i` executes from `s` to `t` with the transactions `xs`, answered with the classes `rs`, and answers
`value`, `err` being the OR of the classes (10_state R39, 60_exceptions R266); what `Untouched` names is as it was. -/
def Executes (i : Instr) (s t : State) (xs : List Xfer) (rs : List ResultClass) (value : Word32) : Prop :=
  exec i s = .next t ∧ Emitted s t xs rs value ∧ t.err = orFlags rs ∧ Untouched s t

/-- The three ghost selector images (10_state R42). -/
def State.selectors (s : State) : Byte × Byte × Byte := (s.tsel, s.asel, s.auxa)

/-- The operation `i` executes from `s` to `t` without a transaction and answers `(err, value)`; nothing else changes. -/
def Answers (i : Instr) (s t : State) (err : Byte) (value : Word32) : Prop :=
  exec i s = .next t ∧ Emitted s t [] [] value ∧ t.err = err ∧ Untouched s t ∧ t.cache = s.cache ∧
    t.selectors = s.selectors

/-- The image of a selector that was `old`, after the events of a trace: the payload of the last word of its space
(10_state R42). -/
def payloadAfter (base : CmdWord) (old : Byte) (trace : List Event) : Byte :=
  trace.foldl (fun p e => match e.xfer with
    | .cmd w => if inSpace base w then lo8 w else p
    | .status => p
    | .bulk _ _ => p) old

/-- The payload of the last word of a space in a trace, else 0xFF: the definition of a selector image (10_state R42). -/
def lastPayload (base : CmdWord) (trace : List Event) : Byte := payloadAfter base 0xFF trace

/-- A bulk read (44_capture R190). -/
def Xfer.isBulk : Xfer → Bool
  | .cmd _ => false
  | .status => false
  | .bulk _ _ => true

/-- The invariant of XCP: in every state a run reaches, and preserved from every state that has it. -/
structure Inv (s : State) : Prop where
  /-- The frame buffer keeps its canonical form, inside the 32-bit address space (20_memory R66). -/
  buffer : Memory.wf s.buf
  /-- `c.capture_timeout_ms` is `5000 + c.itime_ms` (10_state R26). -/
  timeout : ∀ c, s.cache = some c → c.captureTimeoutMs = BitVec.ofNat 32 Config.baseTimeoutMs + c.itimeMs
  /-- The window increments are 1 (10_state R21). -/
  increments : ∀ c, s.cache = some c → c.woiXinc = 1 ∧ c.woiYinc = 1
  /-- Bits 6 and 7 of `err` are 0 (60_exceptions R260). -/
  errReserved : s.err &&& 0xC0 = 0
  /-- So are those of the response. -/
  rspReserved : ∀ r, s.rsp = some r → r.err &&& 0xC0 = 0
  /-- The selector images are what the trace says (10_state R42). -/
  selectors : s.selectors
    = (lastPayload s.cfg.tselBase s.trace, lastPayload s.cfg.aselBase s.trace, lastPayload s.cfg.auxaBase s.trace)
  /-- `Capturing` is never the state between two operations: only while a bulk read is outstanding (44_capture R190). -/
  capturing : s.cstate = .capturing ↔ ∃ o, s.outstanding = some o ∧ o.xfer.isBulk = true
  /-- A blocked operation has not answered (60_exceptions R272). -/
  silent : s.outstanding ≠ none → s.rsp = none

end Sys2Proof.Machine
end

