-- ==== Sys2Proof/Certificates/Slice0/Obligations.lean ====
section
/-! DEFINITION. The statements for the provers. Each docstring names the rule of spec/ it formalises, or says that it rests
on a choice of the model. -/

namespace Sys2Proof.Machine

/-- The rows of spec/opcode_table.json: `match`, `mask`. -/
def opcodeRows : List (ReqWord × ReqWord) := [
  (0x01000000000000000000, 0xFF00FFFFFFFFFFFFFFFE),
  (0x02000000000000000000, 0xFF00FFFFFFFFFFFF0000),
  (0x03000000000000000000, 0xFF00FFFFFFFF00000000),
  (0x04000000000000000000, 0xFF00FFFFFFFFFFFFFFFF),
  (0x10000000000000000000, 0xFFFFFFFFFFFFFFFFFFFF),
  (0x18000000000000000000, 0xFFFFFFFFFFFFFFFF0000),
  (0x20000000000000000000, 0xFFFFFFFFFFFFFFFFFFFF),
  (0x21000000000000000000, 0xFFFF0000000000000000),
  (0x22000000000000000000, 0xFFFFFFFFFFFF00000000),
  (0x23000000000000000000, 0xFFFFFFFFFFFF00000000),
  (0x24000000000000000000, 0xFFFF0000000000000000),
  (0x25000000000000000000, 0xFFFF0000000000000000),
  (0x30000000000000000000, 0xFFFFFFFFFFFFFFFFFFFE),
  (0x31000000000000000000, 0xFFFFFFFFFFFFFFFFFFFE),
  (0x32000000000000000000, 0xFFFFFFFFFFFFFFFFFFFE),
  (0x33000000000000000000, 0xFFFFFFFFFFFFFFFFFFFE),
  (0x34000000000000000000, 0xFFFFFFFFFFFFFFFFFFFE),
  (0x35000000000000000000, 0xFFFFFFFFFFFFFFFFFFFE),
  (0x36000000000000000000, 0xFFFFFFFFFFFFFFFFFFFE),
  (0x37000000000000000000, 0xFFFFFFFFFFFF00000000),
  (0x38000000000000000000, 0xFFFFFFFFFFFF00000000),
  (0x39000000000000000000, 0xFFFFFFFFFFFF00000000),
  (0x3A000000000000000000, 0xFFFFFFFFFFFF00000000),
  (0x3B000000000000000000, 0xFFFFFFFFFFFF00000000),
  (0x3C000000000000000000, 0xFFFFFFFFFFFFFFFFFFFE),
  (0x3D000000000000000000, 0xFFFFFFFFFFFFFFFFFFFE),
  (0x3E000000000000000000, 0xFFFFFFFFFFFFFFFFFFFE),
  (0x40000000000000000000, 0xFFFFFFFFFFFF00000000),
  (0x41000000000000000000, 0xFFFFFFFFFFFFFFFFFFFE),
  (0x42000000000000000000, 0xFFFFFFFFFFFFFFFFFFFE),
  (0x44000000000000000000, 0xFF00FFFFFFFFFFFF0000),
  (0x48000000000000000000, 0xFF00FFFFFFFFFFFFFFFF),
  (0x49000000000000000000, 0xFFFFFFFFFFFFFFFFFFFF),
  (0x4A000000000000000000, 0xFFFFFFFFFFFFFFFFFFFF),
  (0x7E000000000000000000, 0xFFFFFFFFFFFFFFFFFFFF),
  (0x7F000000000000000000, 0xFFFFFFFFFFFFFFFFFFFF)]

/-- The one-bit flag setters (44_capture R200 to R206, R212 to R214): the operation, the cache write, the sensor-word bit
and whether the bit is inverted. -/
def oneBitSetters (v : Bool) : List (Instr × (Cache → Cache) × Nat × Bool) := [
  (.setGain v, fun c => { c with gain := v }, 28, false),
  (.setXinv v, fun c => { c with xinv := v }, 7, true),
  (.setYinv v, fun c => { c with yinv := v }, 6, true),
  (.setLinerepeat v, fun c => { c with linerepeat := v }, 5, false),
  (.setRefout v, fun c => { c with refout := v }, 2, false),
  (.setReset v, fun c => { c with reset := v }, 1, false),
  (.setSkim v, fun c => { c with skim := v }, 0, false),
  (.setItr v, fun c => { c with itr := v }, 29, false),
  (.setMultiplereadouts v, fun c => { c with multiplereadouts := v }, 17, false),
  (.setNondestructive v, fun c => { c with nondestructive := v }, 16, false)]

/-- The level setters (44_capture R207 to R210): the operation, the cache write, the lowest sensor-word bit and the width of
the field. -/
def levelSetters (v : Word32) : List (Instr × (Cache → Cache) × Nat × Nat) := [
  (.setPower v, fun c => { c with power := v }, 26, 2),
  (.setCurrent v, fun c => { c with current := v }, 23, 3),
  (.setBias v, fun c => { c with bias := v }, 20, 3),
  (.setBandwidth v, fun c => { c with bandwidth := v }, 18, 2)]

/-- The transactions of a flag setter whose new cache is `c` (44_capture R198, 42_sensor_word R173): the packed word twice,
the two pixel-correction words, one full frame. -/
def flagSetterXfers (P : Config.Params) (c : Cache) : List Xfer :=
  sent ([ctlCode P 6, ctlCode P 3] ++ value32 P.w32Base (pack c)
      ++ [ctlCode P 6, ctlCode P 3] ++ value32 P.w32Base (pack c)
      ++ [ctlCode P P.pixcorrOffA, ctlCode P P.pixcorrOffB])
    ++ [.bulk 163840 (2 * c.captureTimeoutMs.toNat)]

/-- The 16-bit registers but PWM with their ids and cache mirrors (10_state R32). -/
def mirrors (v : Half) : List (Byte × Reg16 × (Cache → Cache)) := [
  (0x10, { sub := .a, k := 0 }, fun c => { c with adc := v }),
  (0x11, { sub := .a, k := 1 }, fun c => { c with vref := v }),
  (0x12, { sub := .a, k := 2 }, fun c => { c with vdet := v }),
  (0x20, { sub := .t, k := 0 }, fun c => { c with pidP := v }),
  (0x21, { sub := .t, k := 1 }, fun c => { c with pidI := v }),
  (0x22, { sub := .t, k := 2 }, fun c => { c with pidD := v }),
  (0x23, { sub := .t, k := 3 }, fun c => { c with pidSettle := v }),
  (0x30, { sub := .x, k := 0 }, fun c => { c with vinx := v }),
  (0x31, { sub := .x, k := 1 }, fun c => { c with vrefx := v }),
  (0x32, { sub := .x, k := 2 }, fun c => { c with pwmx := v }),
  (0x33, { sub := .x, k := 3 }, fun c => { c with reservedx := v })]

/-- The cache registers by index, zero-extended (10_state R21). -/
def cacheRegisters (c : Cache) : List (Byte × Word32) := [
  (0, flagWord c.gain),
  (1, flagWord c.xinv),
  (2, flagWord c.yinv),
  (3, flagWord c.linerepeat),
  (4, flagWord c.refout),
  (5, flagWord c.reset),
  (6, flagWord c.skim),
  (7, c.power),
  (8, c.current),
  (9, c.bias),
  (10, c.bandwidth),
  (11, c.outputfactor),
  (12, flagWord c.itr),
  (13, flagWord c.multiplereadouts),
  (14, flagWord c.nondestructive),
  (15, c.itimeMs),
  (16, c.captureTimeoutMs),
  (17, c.pwm.setWidth 32),
  (18, flagWord c.cooling),
  (19, flagWord c.continuous),
  (20, flagWord c.exttrig),
  (21, flagWord c.invert),
  (22, flagWord c.fan),
  (23, c.woiXs.setWidth 32),
  (24, c.woiYs.setWidth 32),
  (25, c.woiXe.setWidth 32),
  (26, c.woiYe.setWidth 32),
  (27, c.woiXinc.setWidth 32),
  (28, c.woiYinc.setWidth 32),
  (29, c.frameHz.setWidth 32),
  (32, c.adc.setWidth 32),
  (33, c.vref.setWidth 32),
  (34, c.vdet.setWidth 32),
  (36, c.pidP.setWidth 32),
  (37, c.pidI.setWidth 32),
  (38, c.pidD.setWidth 32),
  (39, c.pidSettle.setWidth 32),
  (40, c.vinx.setWidth 32),
  (41, c.vrefx.setWidth 32),
  (42, c.pwmx.setWidth 32),
  (43, c.reservedx.setWidth 32)]

/-- The transactions `xs`, each with the cache XCP holds while it is outstanding. -/
def under (c : Cache) (xs : List Xfer) : List (Xfer × Cache) := xs.map fun x => (x, c)

/-- The transactions of a read of auxiliary address `a` (41_register_access R160). -/
def auxReadXfers (P : Config.Params) (a : Byte) : List Xfer :=
  [.cmd (w8 P.auxaBase 0xFF), .cmd (w8 P.auxaBase a), .status, .cmd (w8 P.auxaBase 0xFF), .cmd (w8 P.auxdBase 0x00)]

/-- The transactions of every operation on an XCP with cache `c` (10_state R40), each with the cache held while it is
outstanding: the old one for an operation that writes the cache after its words, the new one from the cache write on
(44_capture R194, R198). None for an operation that does no transaction or is refused. -/
def sequenceOf (P : Config.Params) (c : Cache) : Instr → List (Xfer × Cache)
  | .writeBit id d => match bitIndex P id with
    | some idx => under c (sent [ctlWord P idx d])
    | none => []
  | .write16 id v => match reg16Of id with
    | some r => under c (sent (write16Words P r v))
    | none => []
  | .write32 id v => if id = 0x50 then under c (sent (write32Words P v)) else []
  | .read16 id => match auxAddress P id with
    | some a => under c (auxReadXfers P a)
    | none => []
  | .encodeAndSend => under c (sent (encodeWords P c))
  | .setFrameRate hz =>
    if hz = 0 ∨ windowWidth c ≤ 0 ∨ windowHeight c ≤ 0 then []
    else under c (sent (frameRateWords P (useDelay c (cappedRate hz)) (cappedRate hz)))
  | .setCaptureMode => under c (sent [ctlWord P P.idxContinuous true, ctlWord P P.idxExttrig false])
  | .setWoi xs ys xe ye => under c (sent (woiWords P xs ys xe ye))
  | .setItimeInternal ms => if 107374 < ms then [] else under c (sent (itimeWords P ms))
  | .setItime ms =>
    if 107374 < ms then []
    else under c (sent (itimeWords P ms)) ++ under (c.withItime ms) [.bulk 163840 (2 * (5000 + ms))]
  | .captureFrames buf totalPixels =>
    if 0 < totalPixels / 81920 ∧ 0xFFFFFFFF < buf + totalPixels / 81920 * 163840 - 1 then []
    else under c (List.replicate (totalPixels / 81920) (.bulk 163840 (2 * c.captureTimeoutMs.toNat)))
  | .captureData buf length =>
    if length = 0 ∨ 0xFFFFFFFF < buf + length - 1 then []
    else under c [.bulk length (2 * c.captureTimeoutMs.toNat)]
  | .setGain v => let n := { c with gain := v }; under n (flagSetterXfers P n)
  | .setXinv v => let n := { c with xinv := v }; under n (flagSetterXfers P n)
  | .setYinv v => let n := { c with yinv := v }; under n (flagSetterXfers P n)
  | .setLinerepeat v => let n := { c with linerepeat := v }; under n (flagSetterXfers P n)
  | .setRefout v => let n := { c with refout := v }; under n (flagSetterXfers P n)
  | .setReset v => let n := { c with reset := v }; under n (flagSetterXfers P n)
  | .setSkim v => let n := { c with skim := v }; under n (flagSetterXfers P n)
  | .setPower v => let n := { c with power := v }; under n (flagSetterXfers P n)
  | .setCurrent v => let n := { c with current := v }; under n (flagSetterXfers P n)
  | .setBias v => let n := { c with bias := v }; under n (flagSetterXfers P n)
  | .setBandwidth v => let n := { c with bandwidth := v }; under n (flagSetterXfers P n)
  | .setOutputfactor v => let n := { c with outputfactor := v }; under n (flagSetterXfers P n)
  | .setItr v => let n := { c with itr := v }; under n (flagSetterXfers P n)
  | .setMultiplereadouts v => let n := { c with multiplereadouts := v }; under n (flagSetterXfers P n)
  | .setNondestructive v => let n := { c with nondestructive := v }; under n (flagSetterXfers P n)
  | .setPwm v => under c (sent (write16Words P pwmReg (BitVec.ofNat 16 (clampPwm v))))
  | .setCooling v => under c (sent [ctlWord P P.idxCooling v])
  | .setImageInvert v => under c (sent [ctlWord P P.idxInvert v])
  | .setAnalog id v => match reg16Of id with
    | some r =>
      if r = pwmReg then under c (sent (write16Words P pwmReg (BitVec.ofNat 16 (clampPwm (v.toNat : Int)))))
      else under c (sent (write16Words P r v))
    | none => []
  | .get _ => []
  | .getTemperatureAdu => under c (auxReadXfers P P.auxTemperature)
  | .getTemperatureAdcType => under c (auxReadXfers P P.auxAdcType)
  | .openDevice => []
  | .closeDevice => []

/-- The answers on `CMD` and `STATUS` with their class (40_command_channel R133) and its `err` value (60_exceptions R260). -/
def answerClasses : List (Config.Transport × ResultClass × Byte) :=
  [(.ok, .ok, 0x00), (.timeout, .timeout, 0x01), (.error, .generic, 0x20)]

end Sys2Proof.Machine

open Sys2Proof Sys2Proof.Machine Sys2Proof.Config

/-! ## Requests and decoding -/

/-- Decoding the word of an operation gives the operation back, for every operation of 30_encoding R96 with every operand its
format admits (R91, R92). -/
def Obligations.DecodeInvertsEncode : Prop :=
  ∀ i : Instr, i.WellFormed = true → decode (encode i) = .ok i

/-- A word that decodes is the encoding of what it decodes to, which fits its format: each word has one meaning and no set
bit of it is dropped (30_encoding R92, R93). -/
def Obligations.DecodedWordIsTheEncoding : Prop :=
  ∀ (w : ReqWord) (i : Instr), decode w = .ok i → i.WellFormed = true ∧ encode i = w

/-- The decoder accepts exactly the words that match a row of spec/opcode_table.json; a word whose opcode no row has is
rejected as unassigned, any other rejected word for a reserved bit (30_encoding R92, R93, R96). -/
def Obligations.DecoderAcceptsExactlyTheTable : Prop :=
  ∀ w : ReqWord,
    ((∃ i, decode w = .ok i) ↔ ∃ row ∈ opcodeRows, w &&& row.2 = row.1) ∧
    (decode w = .error .unassignedOpcode ↔ ∀ row ∈ opcodeRows, reqOp row.1 ≠ reqOp w)

/-- Request words written out from the formats of 30_encoding R92 and R96 (vectors V30, V41, V44, V45 of 95_test_vectors). -/
def Obligations.SampleWordsDecode : Prop :=
  decode 0x01010000000000000001 = .ok (.writeBit 0x01 true) ∧
  decode 0x02130000000000000064 = .ok (.write16 0x13 100) ∧
  decode 0x035000000000800000C0 = .ok (.write32 0x50 0x800000C0) ∧
  decode 0x04400000000000000000 = .ok (.read16 0x40) ∧
  decode 0x10000000000000000000 = .ok .encodeAndSend ∧
  decode 0x1800000000000000015E = .ok (.setFrameRate 350) ∧
  decode 0x210000000000013F00FF = .ok (.setWoi 0 0 319 255) ∧
  decode 0x2200000000000001A36E = .ok (.setItimeInternal 107374) ∧
  decode 0x24000000100000028000 = .ok (.captureFrames 0x1000 163840) ∧
  decode 0x30000000000000000001 = .ok (.setGain true) ∧
  decode 0x400000000000FFFFFFF6 = .ok (.setPwm (-10)) ∧
  decode 0x30000000000000000002 = .error .reservedBit ∧
  decode 0x05000000000000000000 = .error .unassignedOpcode

/-- When the next request decodes to `i`, a step is `exec i` on the state with that request taken (20_memory R79,
30_encoding R115). -/
def Obligations.StepRunsDecodedRequest : Prop :=
  ∀ (s : State) (w : ReqWord) (rest : List ReqWord) (i : Instr),
    s.reqs = w :: rest → s.outstanding = none → decode w = .ok i → step s = exec i { s with reqs := rest }

/-- While open and idle, a request that matches no row of the opcode table is answered `NotSupported`, value 0, and changes
nothing else (30_encoding R93). -/
def Obligations.UndecodableRequestAnswersNotSupported : Prop :=
  ∀ (s : State) (c : Cache) (w : ReqWord) (rest : List ReqWord),
    s.reqs = w :: rest → Available s c → (∀ row ∈ opcodeRows, w &&& row.2 ≠ row.1) →
    step s = .next { s with reqs := rest, rsp := some { err := 0x10, value := 0 } }

/-- An undecodable request is answered `NotSupported` while closed too. The model's choice where 30_encoding R93 answers every
undecodable request and 60_exceptions R274 refuses every request but `OPEN` while closed (notes/assumptions/12). -/
def Obligations.UndecodableRequestIsAnsweredWhileClosedToo : Prop :=
  ∀ (s : State) (w : ReqWord) (rest : List ReqWord),
    s.reqs = w :: rest → s.outstanding = none → s.cache = none → (∀ row ∈ opcodeRows, w &&& row.2 ≠ row.1) →
    step s = .next { s with reqs := rest, rsp := some { err := 0x10, value := 0 } }

/-- Without a request a step changes nothing: XCP is idle between requests or blocked in a transaction
(60_exceptions R285, R272). -/
def Obligations.StepWithoutRequestKeepsState : Prop :=
  ∀ s : State, s.reqs = [] → step s = .next s

/-! ## Register Access Layer -/

/-- `WRITE_BIT` (41_register_access R144): one control-bank word for the four bit registers, `err` the class it is answered
with, `NoSuchRegister` and no word for any other id; the cache and the selectors keep their values. Under the layout of
30_encoding R102 the payload is the index above the data bit. -/
def Obligations.WriteBitSendsOneControlWord : Prop :=
  ∀ (s : State) (c : Cache) (id : Byte) (d : Bool),
    (∀ idx a r f, (id, idx) ∈ [(0x00, s.cfg.idxCooling), (0x01, s.cfg.idxContinuous), (0x02, s.cfg.idxExttrig),
        (0x03, s.cfg.idxInvert)] → Ready s c → s.replies.cmd 0 = some a → (a, r, f) ∈ answerClasses →
      ∃ t, Executes (.writeBit id d) s t [.cmd (w8 s.cfg.ctlBase (ctlPayloadOf s.cfg idx d))] [r] 0 ∧ t.err = f ∧
        t.cache = some c ∧ t.selectors = s.selectors) ∧
    (∀ idx, s.cfg.ctlLayout = .shifted → ctlPayloadOf s.cfg idx d = BitVec.ofNat 8 (2 * idx.toNat + d.toNat)) ∧
    (4 ≤ id.toNat → Available s c → ∃ t, Answers (.writeBit id d) s t 0x08 0)

/-- `WRITE16` of a sub-range A register (41_register_access R146): one bank select by the pair, the value low byte first on
channel 0 or 2, both bank selects again. -/
def Obligations.Write16BankSelectSequence : Prop :=
  ∀ (s : State) (c : Cache) (k : Fin 4) (v : Half) (xs : List Xfer) (rs : List ResultClass), Ready s c →
    xs = sent [ctlCode s.cfg (if k.val / 2 % 2 = 0 then s.cfg.banksel0 else s.cfg.banksel1),
        w8 (if k.val % 2 = 0 then s.cfg.av0Base else s.cfg.av2Base) (lo8 v),
        w8 (if k.val % 2 = 0 then s.cfg.av0Base else s.cfg.av2Base) (hi8 v),
        ctlCode s.cfg s.cfg.banksel0, ctlCode s.cfg s.cfg.banksel1] →
    Answered s xs rs →
    ∃ t, Executes (.write16 (BitVec.ofNat 8 (0x10 + k.val)) v) s t xs rs 0 ∧
      t.cache = some c ∧ t.selectors = s.selectors

/-- `WRITE16` of a sub-range T register (41_register_access R147): P and I leave the timing selector asserted at 0, D and
SETTLE deselect it. -/
def Obligations.Write16TimingSequence : Prop :=
  ∀ (s : State) (c : Cache) (k : Fin 4) (v : Half) (xs : List Xfer) (rs : List ResultClass), Ready s c →
    xs = sent ([w8 s.cfg.tselBase (BitVec.ofNat 8 (k.val / 2)),
        w8 (if k.val % 2 = 0 then s.cfg.av0Base else s.cfg.av2Base) (lo8 v),
        w8 (if k.val % 2 = 0 then s.cfg.av0Base else s.cfg.av2Base) (hi8 v)]
        ++ if 2 ≤ k.val then [w8 s.cfg.tselBase 0xFF] else []) →
    Answered s xs rs →
    ∃ t, Executes (.write16 (BitVec.ofNat 8 (0x20 + k.val)) v) s t xs rs 0 ∧
      t.cache = some c ∧ t.selectors = (if 2 ≤ k.val then 0xFF else 0x00, s.asel, s.auxa)

/-- `WRITE16` of a sub-range X register (41_register_access R148): select by the pair, value, always deselect. -/
def Obligations.Write16ExtendedSequence : Prop :=
  ∀ (s : State) (c : Cache) (k : Fin 4) (v : Half) (xs : List Xfer) (rs : List ResultClass), Ready s c →
    xs = sent [w8 s.cfg.aselBase (BitVec.ofNat 8 (k.val / 2)),
        w8 (if k.val % 2 = 0 then s.cfg.av0Base else s.cfg.av2Base) (lo8 v),
        w8 (if k.val % 2 = 0 then s.cfg.av0Base else s.cfg.av2Base) (hi8 v),
        w8 s.cfg.aselBase 0xFF] →
    Answered s xs rs →
    ∃ t, Executes (.write16 (BitVec.ofNat 8 (0x30 + k.val)) v) s t xs rs 0 ∧
      t.cache = some c ∧ t.selectors = (s.tsel, 0xFF, s.auxa)

/-- `WRITE16` of any other id: `NoSuchRegister`, nothing emitted (41_register_access R149). -/
def Obligations.Write16OtherIdIsNoSuchRegister : Prop :=
  ∀ (s : State) (c : Cache) (id : Byte) (v : Half), Available s c →
    ¬ (0x10 ≤ id.toNat ∧ id.toNat ≤ 0x13) → ¬ (0x20 ≤ id.toNat ∧ id.toNat ≤ 0x23) →
    ¬ (0x30 ≤ id.toNat ∧ id.toNat ≤ 0x33) → ∃ t, Answers (.write16 id v) s t 0x08 0

/-- `WRITE32 SENSORWORD` (41_register_access R151): codes 6 and 3, then the four bytes, most significant first, each at its
own offset; the value is sent as given. -/
def Obligations.Write32SensorWordSequence : Prop :=
  ∀ (s : State) (c : Cache) (v : Word32) (xs : List Xfer) (rs : List ResultClass), Ready s c →
    xs = sent [ctlCode s.cfg 6, ctlCode s.cfg 3,
        (s.cfg.w32Base + 0x300) ||| (v.extractLsb' 24 8).setWidth 16,
        (s.cfg.w32Base + 0x200) ||| (v.extractLsb' 16 8).setWidth 16,
        (s.cfg.w32Base + 0x100) ||| (v.extractLsb' 8 8).setWidth 16,
        s.cfg.w32Base ||| (v.extractLsb' 0 8).setWidth 16] →
    Answered s xs rs →
    ∃ t, Executes (.write32 0x50 v) s t xs rs 0 ∧
      t.cache = some c ∧ t.selectors = s.selectors

/-- `WRITE32` of any other id: `NoSuchRegister`, nothing emitted (41_register_access R152). -/
def Obligations.Write32OtherIdIsNoSuchRegister : Prop :=
  ∀ (s : State) (c : Cache) (id : Byte) (v : Word32), Available s c → id ≠ 0x50 →
    ∃ t, Answers (.write32 id v) s t 0x08 0

/-- `READ16` of the two readable registers and the two temperature getters (41_register_access R160, 45_cache_setters R241,
R242): four words around one status read, each recorded with the class it is answered with; the value is the temperature field
of a good response, else 0; a bad validity byte raises `Generic` (40_command_channel R131). Where byte 8 is the low byte
(20_memory R71) and every validity byte is good, the value of a response is byte 8 plus 256 times byte 9. -/
def Obligations.AuxiliaryReadReturnsTemperatureField : Prop :=
  ∀ (s : State) (c : Cache) (i : Instr) (a : Byte) (r : StatusReply) (xs : List Xfer) (rs : List ResultClass), Ready s c →
    (i, a) ∈ [(Instr.read16 0x40, s.cfg.auxTemperature), (.read16 0x41, s.cfg.auxAdcType),
      (.getTemperatureAdu, s.cfg.auxTemperature), (.getTemperatureAdcType, s.cfg.auxAdcType)] →
    xs = auxReadXfers s.cfg a → Answered s xs rs → s.replies.status 0 = some r →
    ∃ t, exec i s = .next t ∧
      Emitted s t xs rs
        (if r.transport = .ok ∧ validOf s.cfg r.bytes[0] = true then
          (tempOf s.cfg r.bytes[8] r.bytes[9]).setWidth 32 else 0) ∧
      t.err = orFlags rs ||| (if r.transport = .ok ∧ validOf s.cfg r.bytes[0] = false then 0x20 else 0) ∧
      (s.cfg.validOf = .always → s.cfg.tempOf = .byte8Low → r.transport = .ok → t.err = orFlags rs ∧
        t.rsp = some { err := t.err, value := BitVec.ofNat 32 (r.bytes[8].toNat + 256 * r.bytes[9].toNat) }) ∧
      Untouched s t ∧ t.cache = some c ∧ t.selectors = (s.tsel, s.asel, 0xFF)

/-- `READ16` of a write-only register is `NotSupported`, of an id in no family `NoSuchRegister`; nothing is emitted
(41_register_access R161). -/
def Obligations.Read16OtherIdsEmitNothing : Prop :=
  ∀ (s : State) (c : Cache) (id : Byte), Available s c →
    (id ∈ ([0x00, 0x01, 0x02, 0x03, 0x10, 0x11, 0x12, 0x13, 0x20, 0x21, 0x22, 0x23, 0x30, 0x31, 0x32, 0x33, 0x50] :
        List Byte) → ∃ t, Answers (.read16 id) s t 0x10 0) ∧
    (id ∉ ([0x00, 0x01, 0x02, 0x03, 0x10, 0x11, 0x12, 0x13, 0x20, 0x21, 0x22, 0x23, 0x30, 0x31, 0x32, 0x33, 0x40, 0x41,
        0x50] : List Byte) → ∃ t, Answers (.read16 id) s t 0x08 0)

/-- The four raw operations and `ENCODE_AND_SEND` never write the cache, in any state and whatever the environment does, and
what the four raw operations do does not depend on what the cache holds (41_register_access R141). That `ENCODE_AND_SEND`
reads it is the model's choice (42_sensor_word R173, notes/assumptions/29). -/
def Obligations.RawOperationsKeepTheCache : Prop :=
  ∀ (s t : State) (id : Byte) (d : Bool) (v : Half) (u : Word32) (i : Instr), exec i s = .next t →
    (i ∈ [Instr.writeBit id d, .write16 id v, .write32 id u, .read16 id, .encodeAndSend] → t.cache = s.cache) ∧
    (i ∈ [Instr.writeBit id d, .write16 id v, .write32 id u, .read16 id] →
      ∀ c, exec i { s with cache := some c } = .next { t with cache := some c })

/-- `Decode16` of the words of a 16-bit write is the id and the value written: the inference 41_register_access R162 draws
from R146 to R148. -/
def Obligations.Decode16InvertsWrite16 : Prop :=
  ∀ (P : Params) (r : Reg16) (v : Half), P.Admissible → P.banksel0 ≠ P.banksel1 →
    decode16 P (write16Words P r v) = some (r.id, v)

/-- Under the constraints of 20_memory R77 a built command word determines its space and its payload (30_encoding R113,
R101, R104). -/
def Obligations.CommandWordDeterminesSpaceAndPayload : Prop :=
  ∀ (P : Params) (g : Space), P.Admissible →
    (g.size = 0x100 → ∀ p : Byte, parseWord P (w8 (g.base P) p) = some (g, p.toNat)) ∧
    (g.size = 0x400 → ∀ (k : Nat) (v : Word32), k < 4 →
      parseWord P (v32Word (g.base P) k v) = some (g, k * 0x100 + (v.toNat / 2 ^ (8 * k)) % 256)) ∧
    (g.size = 0x1000 → ∀ p : BitVec 12, parseWord P (w12 (g.base P) p) = some (g, p.toNat))

/-- The sequences of the Register Access Layer are recognised by their first words, and their lengths are those of R99
(30_encoding R113, R99). -/
def Obligations.SequencesAreRecognisedByTheirFirstWords : Prop :=
  ∀ (P : Params) (rest : List CmdWord), P.Admissible →
    (∀ (r : Reg16) (v : Half),
      firstSequence P (write16Words P r v ++ rest)
          = some (match r.sub with | .a => .write16A | .t => .write16T | .x => .write16X) ∧
        sequenceLength P (write16Words P r v ++ rest) = some (write16Words P r v).length) ∧
    (∀ v : Word32, firstSequence P (write32Words P v ++ rest) = some .sensorWord ∧
      sequenceLength P (write32Words P v ++ rest) = some 6) ∧
    (∀ a : Byte, firstSequence P (w8 P.auxaBase 0xFF :: w8 P.auxaBase a :: rest) = some .auxRead ∧
      sequenceLength P (w8 P.auxaBase 0xFF :: w8 P.auxaBase a :: rest) = some 4)

/-! ## Sensor Command-Word Encoder -/

/-- The packed word bit by bit (30_encoding R105, R106). -/
def Obligations.PackedWordLayout : Prop :=
  ∀ c : Cache,
    (pack c).getLsbD 31 = true ∧ (pack c).getLsbD 30 = false ∧
    (pack c).getLsbD 29 = c.itr ∧ (pack c).getLsbD 28 = c.gain ∧
    (pack c).extractLsb' 26 2 = c.power.extractLsb' 0 2 ∧
    (pack c).extractLsb' 23 3 = c.current.extractLsb' 0 3 ∧
    (pack c).extractLsb' 20 3 = c.bias.extractLsb' 0 3 ∧
    (pack c).extractLsb' 18 2 = c.bandwidth.extractLsb' 0 2 ∧
    (pack c).getLsbD 17 = c.multiplereadouts ∧ (pack c).getLsbD 16 = c.nondestructive ∧
    (pack c).extractLsb' 8 8 = 0 ∧
    (pack c).getLsbD 7 = !c.xinv ∧ (pack c).getLsbD 6 = !c.yinv ∧
    (pack c).getLsbD 5 = c.linerepeat ∧
    (pack c).extractLsb' 3 2
      = (if c.outputfactor = 1 then 0 else if c.outputfactor = 2 then 2 else if c.outputfactor = 4 then 3 else 0) ∧
    (pack c).getLsbD 2 = c.refout ∧ (pack c).getLsbD 1 = c.reset ∧ (pack c).getLsbD 0 = c.skim

/-- Each field is recovered from the packed word, the levels modulo 4 or 8 and the output factor up to its code: two caches
pack alike exactly when they agree so far: the inferences 42_sensor_word R172 items (f) and (g) draw from R170. -/
def Obligations.PackingLosesOnlyMaskedBits : Prop :=
  ∀ c d : Cache, pack c = pack d ↔
    (c.gain = d.gain ∧ c.xinv = d.xinv ∧ c.yinv = d.yinv ∧ c.linerepeat = d.linerepeat ∧ c.refout = d.refout ∧
      c.reset = d.reset ∧ c.skim = d.skim ∧ c.itr = d.itr ∧ c.multiplereadouts = d.multiplereadouts ∧
      c.nondestructive = d.nondestructive ∧
      c.power.toNat % 4 = d.power.toNat % 4 ∧ c.current.toNat % 8 = d.current.toNat % 8 ∧
      c.bias.toNat % 8 = d.bias.toNat % 8 ∧ c.bandwidth.toNat % 4 = d.bandwidth.toNat % 4 ∧
      ofCode c.outputfactor = ofCode d.outputfactor)

/-- `ENCODE_AND_SEND`: the packed word written twice, then the two pixel-correction words (42_sensor_word R173, R174); the
cache is not written. That the word sent is `Pack` of the cache is the model's choice: it follows R173 and 30_encoding R98,
against the words of 41_register_access R141 that the operation does not read the cache (notes/assumptions/29). -/
def Obligations.EncodeAndSendWritesTheWordTwice : Prop :=
  ∀ (s : State) (c : Cache) (xs : List Xfer) (rs : List ResultClass), Ready s c →
    xs = sent ([ctlCode s.cfg 6, ctlCode s.cfg 3] ++ value32 s.cfg.w32Base (pack c)
        ++ [ctlCode s.cfg 6, ctlCode s.cfg 3] ++ value32 s.cfg.w32Base (pack c)
        ++ [ctlCode s.cfg s.cfg.pixcorrOffA, ctlCode s.cfg s.cfg.pixcorrOffB]) →
    Answered s xs rs →
    ∃ t, Executes .encodeAndSend s t xs rs 0 ∧
      t.cache = some c ∧ t.selectors = s.selectors

/-! ## Frame-Timing Controller -/

/-- `SET_FRAME_RATE` over a window that is not inverted (43_frame_timing R180, R184): seven words when the rate is not
reached without a delay, else the enable word alone; `frame_hz` takes the capped rate. The direction in which the delay of
128 Hz rounds is the spec's own, from general knowledge (43_frame_timing R183, notes/assumptions/20). -/
def Obligations.SetFrameRateProgramsTheDelay : Prop :=
  ∀ (s : State) (c : Cache) (hz hz' delay : Nat) (delayed : Bool) (xs : List Xfer) (rs : List ResultClass), Ready s c →
    0 < hz → c.woiXs.toNat ≤ c.woiXe.toNat → c.woiYs.toNat ≤ c.woiYe.toNat →
    hz' = min hz 350 →
    delayed = !rateReached hz' ((c.woiXe.toNat - c.woiXs.toNat + 1) * (c.woiYe.toNat - c.woiYs.toNat + 1)) →
    delay = min (1000000 / hz' + if hz' ≤ 2 * (1000000 % hz') then 1 else 0) 65535 →
    xs = sent ((if delayed then
          [w8 s.cfg.auxaBase s.cfg.auxDelayHi, w8 s.cfg.auxdBase (BitVec.ofNat 8 (delay / 256)),
            w8 s.cfg.auxaBase 0xFF,
            w8 s.cfg.auxaBase s.cfg.auxDelayLo, w8 s.cfg.auxdBase (BitVec.ofNat 8 (delay % 256)),
            w8 s.cfg.auxaBase 0xFF]
        else []) ++ [ctlWord s.cfg s.cfg.idxDelayEn delayed]) →
    Answered s xs rs →
    ∃ t, Executes (.setFrameRate hz) s t xs rs 0 ∧
      t.cache = some { c with frameHz := BitVec.ofNat 16 hz' } ∧
      t.selectors = (s.tsel, s.asel, if delayed then 0xFF else s.auxa)

/-- The refused inputs of `SET_FRAME_RATE` (43_frame_timing R186). -/
def Obligations.SetFrameRateRefusedInputs : Prop :=
  ∀ (s : State) (c : Cache) (hz : Nat), Available s c →
    (hz = 0 → exec (.setFrameRate hz) s = .refused .zeroFrameRate) ∧
    (0 < hz → (c.woiXe.toNat < c.woiXs.toNat ∨ c.woiYe.toNat < c.woiYs.toNat) →
      exec (.setFrameRate hz) s = .refused .invertedWindow)

/-- The integer test the model evaluates is the comparison of real numbers `hz >= MaxRealRate(w, h)` for an area `w * h`
(43_frame_timing R181, R182). -/
def Obligations.RateTestIsTheRealComparison : Prop :=
  ∀ hz area : Nat, 0 < hz → 0 < area →
    (rateReached hz area = true ↔
      (177715 : ℝ) * (area : ℝ) ^ (-(0.6362 : ℝ)) * ((350 : ℝ) / 120) ≤ (hz : ℝ))

/-- For every window that meets the invariant of 70_reset_and_hazards R303 a delay is used at every rate
(43_frame_timing R185 item (b)). -/
def Obligations.ValidWindowsAlwaysUseADelay : Prop :=
  ∀ (c : Cache) (hz : Nat), 0 < hz → c.woiXs.toNat < c.woiXe.toNat → c.woiXe.toNat < 320 →
    c.woiYs.toNat < c.woiYe.toNat → c.woiYe.toNat < 256 → useDelay c (cappedRate hz) = true

/-- The delay is `1000000 / hz` rounded to the nearest integer, a half upwards, and at most 65535 (43_frame_timing R183). The
direction of a half is the spec's own, from general knowledge (notes/assumptions/20). -/
def Obligations.FrameDelayRoundsToNearest : Prop :=
  ∀ hz : Nat, 0 < hz → (frameDelay hz : ℤ) = min ⌊(1000000 : ℚ) / (hz : ℚ) + 1 / 2⌋ 65535

/-! ## Capture State Machine -/

/-- `SET_CAPTURE_MODE` (44_capture R195): continuous on, then external trigger off; both cached; `cstate` configured. -/
def Obligations.SetCaptureModeConfigures : Prop :=
  ∀ (s : State) (c : Cache) (xs : List Xfer) (rs : List ResultClass), Ready s c →
    xs = sent [ctlWord s.cfg s.cfg.idxContinuous true, ctlWord s.cfg s.cfg.idxExttrig false] → Answered s xs rs →
    ∃ t, exec .setCaptureMode s = .next t ∧ Emitted s t xs rs 0 ∧ t.err = orFlags rs ∧
      t.cache = some { c with continuous := true, exttrig := false } ∧ t.cstate = .configured ∧
      t.cfg = s.cfg ∧ t.reqs = s.reqs ∧ t.framelog = s.framelog ∧ (∀ a, t.readBuf a = s.readBuf a) ∧
      t.selectors = s.selectors

/-- `SET_WOI` (44_capture R191): six words with 12-bit payloads, the masked bounds cached, unit increments, no check. -/
def Obligations.SetWoiSendsAndCachesMaskedBounds : Prop :=
  ∀ (s : State) (c : Cache) (xs ys xe ye : Half) (xfers : List Xfer) (rs : List ResultClass), Ready s c →
    xfers = sent [w12 s.cfg.woiXsBase (xs.setWidth 12), w12 s.cfg.woiYsBase (ys.setWidth 12),
        w12 s.cfg.woiXeBase (xe.setWidth 12), w12 s.cfg.woiYeBase (ye.setWidth 12),
        w12 s.cfg.woiXincBase 1, w12 s.cfg.woiYincBase 1] →
    Answered s xfers rs →
    ∃ t, Executes (.setWoi xs ys xe ye) s t xfers rs 0 ∧
      t.cache = some { c with
        woiXs := xs.setWidth 12, woiYs := ys.setWidth 12, woiXe := xe.setWidth 12, woiYe := ye.setWidth 12
        woiXinc := 1, woiYinc := 1 } ∧
      t.selectors = s.selectors

/-- `SET_ITIME_INTERNAL` (44_capture R192): up to 107374 ms the preceding codes, the ticks most significant byte first, the
time and the capture timeout cached, no settle; above 107374 ms refused. -/
def Obligations.SetItimeInternalWritesTicks : Prop :=
  ∀ (s : State) (c : Cache) (ms : Nat),
    (∀ (ticks : Word32) (xs : List Xfer) (rs : List ResultClass), Ready s c → ms ≤ 107374 → ticks.toNat = ms * 40000 →
      xs = sent (s.cfg.itimePre.map (ctlCode s.cfg) ++ [v32Word s.cfg.itimeBase 3 ticks, v32Word s.cfg.itimeBase 2 ticks,
          v32Word s.cfg.itimeBase 1 ticks, v32Word s.cfg.itimeBase 0 ticks]) →
      Answered s xs rs →
      ∃ t, Executes (.setItimeInternal ms) s t xs rs 0 ∧
        t.cache = some { c with
          itimeMs := BitVec.ofNat 32 ms, captureTimeoutMs := BitVec.ofNat 32 (5000 + ms) } ∧
        t.selectors = s.selectors) ∧
    (Available s c → 107374 < ms → exec (.setItimeInternal ms) s = .refused .integrationTimeTooLong)

/-- `SET_ITIME` (44_capture R194): up to 107374 ms as the internal variant, then a settle with the new timeout; above
107374 ms refused. -/
def Obligations.SetItimeSettlesWithNewTimeout : Prop :=
  ∀ (s : State) (c : Cache) (ms : Nat),
    (∀ (ticks : Word32) (xs : List Xfer) (rs : List ResultClass), Ready s c → ms ≤ 107374 → ticks.toNat = ms * 40000 →
      xs = sent (s.cfg.itimePre.map (ctlCode s.cfg) ++ [v32Word s.cfg.itimeBase 3 ticks, v32Word s.cfg.itimeBase 2 ticks,
          v32Word s.cfg.itimeBase 1 ticks, v32Word s.cfg.itimeBase 0 ticks])
          ++ [.bulk 163840 (2 * (5000 + ms))] →
      Answered s xs rs →
      ∃ t, Executes (.setItime ms) s t xs rs 0 ∧
        t.cache = some { c with
          itimeMs := BitVec.ofNat 32 ms, captureTimeoutMs := BitVec.ofNat 32 (5000 + ms) } ∧
        t.selectors = s.selectors) ∧
    (Available s c → 107374 < ms → exec (.setItime ms) s = .refused .integrationTimeTooLong)

/-- `CAPTURE_FRAMES` (44_capture R196): `n = totalPixels / 81920` full-frame reads whatever each answers, their classes in the
frame log only, the response `(0, 0)`; the bytes received of a frame without a transport error land in its region from its
first address on; no byte outside the `n` regions changes. The class of a frame is that of 40_command_channel R133. A capture
whose last byte address would pass 0xFFFFFFFF is refused. -/
def Obligations.CaptureFramesFillsDisjointRegions : Prop :=
  ∀ (s : State) (c : Cache) (buf totalPixels n : Nat) (xs : List Xfer) (rs : List ResultClass), n = totalPixels / 81920 →
    (Available s c → (n = 0 ∨ buf + n * 163840 - 1 ≤ 0xFFFFFFFF) →
      xs = List.replicate n (.bulk 163840 (2 * c.captureTimeoutMs.toNat)) → Answered s xs rs →
      ∃ t, exec (.captureFrames buf totalPixels) s = .next t ∧ Emitted s t xs rs 0 ∧ t.err = 0 ∧ t.framelog = rs ∧
        (∀ (i : Nat) (r : BulkReply), i < n → s.replies.bulk i = some r →
          (r.transport = .ok → 163840 ≤ r.bytes.length → rs[i]? = some .ok) ∧
          (r.transport = .ok → 0 < r.bytes.length → r.bytes.length < 163840 → rs[i]? = some .underrun) ∧
          (r.transport = .ok → r.bytes.length = 0 → rs[i]? = some .generic) ∧
          (r.transport = .timeout → rs[i]? = some .timeout) ∧
          (r.transport = .error → rs[i]? = some .generic) ∧
          (r.transport = .ok → ∀ (j : Nat) (b : Byte), j < 163840 → r.bytes[j]? = some b →
            t.readBuf (buf + i * 163840 + j) = some b)) ∧
        (∀ a, a < buf ∨ buf + n * 163840 ≤ a → t.readBuf a = s.readBuf a) ∧
        t.cfg = s.cfg ∧ t.reqs = s.reqs ∧ t.cstate = s.cstate ∧ t.cache = some c ∧ t.selectors = s.selectors) ∧
    (Available s c → 0 < n → 0xFFFFFFFF < buf + n * 163840 - 1 →
      exec (.captureFrames buf totalPixels) s = .refused .captureBeyondBuffer)

/-- `CAPTURE_DATA` (44_capture R197): of at least one byte inside the buffer's address space, one bulk read of `length` bytes,
its class reported as 40_command_channel R133 and 60_exceptions R260 say, the byte count answered, the bytes received without
a transport error written from `buf` on, no byte outside the region changed; of no byte, `(0, 0)` and nothing done; past
0xFFFFFFFF, refused. -/
def Obligations.CaptureDataReportsClassAndCount : Prop :=
  ∀ (s : State) (c : Cache) (buf length : Nat),
    (∀ (r : BulkReply) (k : Nat), Available s c → 0 < length → buf + length - 1 ≤ 0xFFFFFFFF →
      s.replies.bulk 0 = some r → k = min r.bytes.length length →
      ∃ (t : State) (q : ResultClass), exec (.captureData buf length) s = .next t ∧
        Emitted s t [.bulk length (2 * c.captureTimeoutMs.toNat)] [q] (BitVec.ofNat 32 k) ∧
        (r.transport = .ok → k = length → q = .ok ∧ t.err = 0x00) ∧
        (r.transport = .ok → 0 < k → k < length → q = .underrun ∧ t.err = 0x02) ∧
        (r.transport = .ok → k = 0 → q = .generic ∧ t.err = 0x20) ∧
        (r.transport = .timeout → q = .timeout ∧ t.err = 0x01) ∧
        (r.transport = .error → q = .generic ∧ t.err = 0x20) ∧
        (r.transport = .ok → ∀ (j : Nat) (b : Byte), j < length → r.bytes[j]? = some b →
          t.readBuf (buf + j) = some b) ∧
        (∀ a, a < buf ∨ buf + length ≤ a → t.readBuf a = s.readBuf a) ∧
        t.cfg = s.cfg ∧ t.reqs = s.reqs ∧ t.cstate = s.cstate ∧ t.framelog = s.framelog ∧ t.cache = some c ∧
        t.selectors = s.selectors) ∧
    (Available s c → length = 0 → ∃ t, Answers (.captureData buf length) s t 0 0) ∧
    (Available s c → 0 < length → 0xFFFFFFFF < buf + length - 1 →
      exec (.captureData buf length) s = .refused .captureBeyondBuffer)

/-- The ten one-bit CW9808 flag setters (44_capture R198, R200 to R206, R212 to R214): the field is cached whatever the
environment answers, the whole packed word is sent twice, one frame is drained; the field's bit of the packed word is as given
(inverted for `xinv` and `yinv`), every other bit as it was. -/
def Obligations.OneBitFlagSettersReconfigureAndSettle : Prop :=
  ∀ (s : State) (c : Cache) (v : Bool) (i : Instr) (set : Cache → Cache) (pos : Nat) (inverted : Bool) (xs : List Xfer)
    (rs : List ResultClass), Ready s c → (i, set, pos, inverted) ∈ oneBitSetters v →
    xs = flagSetterXfers s.cfg (set c) → Answered s xs rs →
    (∃ t, Executes i s t xs rs 0 ∧ t.cache = some (set c) ∧ t.selectors = s.selectors) ∧
    (pack (set c)).getLsbD pos = (v ^^ inverted) ∧
    (∀ k, k ≠ pos → (pack (set c)).getLsbD k = (pack c).getLsbD k)

/-- The four level setters (44_capture R198, R207 to R210): the operand is cached unmasked and its low bits are the field of
the packed word; every bit outside the field is as it was. -/
def Obligations.LevelSettersCacheUnmaskedAndSendMasked : Prop :=
  ∀ (s : State) (c : Cache) (v : Word32) (i : Instr) (set : Cache → Cache) (pos width : Nat) (xs : List Xfer)
    (rs : List ResultClass), Ready s c → (i, set, pos, width) ∈ levelSetters v →
    xs = flagSetterXfers s.cfg (set c) → Answered s xs rs →
    (∃ t, Executes i s t xs rs 0 ∧ t.cache = some (set c) ∧ t.selectors = s.selectors) ∧
    (pack (set c)).extractLsb' pos width = v.extractLsb' 0 width ∧
    (∀ k, k < pos ∨ pos + width ≤ k → (pack (set c)).getLsbD k = (pack c).getLsbD k)

/-- `SET_OUTPUTFACTOR` (44_capture R198, R211): any operand is cached as given; 2 and 4 pack as codes 2 and 3, every other
operand as 0, without an error; every bit but 4:3 is as it was. -/
def Obligations.SetOutputfactorPacksItsCode : Prop :=
  ∀ (s : State) (c : Cache) (v : Word32) (xs : List Xfer) (rs : List ResultClass), Ready s c →
    xs = flagSetterXfers s.cfg { c with outputfactor := v } → Answered s xs rs →
    (∃ t, Executes (.setOutputfactor v) s t xs rs 0 ∧ t.cache = some { c with outputfactor := v } ∧
      t.selectors = s.selectors) ∧
    (pack { c with outputfactor := v }).extractLsb' 3 2 = (if v = 2 then 2 else if v = 4 then 3 else 0) ∧
    (∀ k, k ≠ 3 → k ≠ 4 → (pack { c with outputfactor := v }).getLsbD k = (pack c).getLsbD k)

/-! ## Camera State Cache -/

/-- `SET_PWM` (45_cache_setters R230): the operand clamped to 0..4095 by a signed comparison is written to PWM and cached. -/
def Obligations.SetPwmWritesTheClampedValue : Prop :=
  ∀ (s : State) (c : Cache) (v : Int) (p : Nat) (xs : List Xfer) (rs : List ResultClass), Ready s c →
    p = (if v < 0 then 0 else if 4095 < v then 4095 else v.toNat) →
    xs = sent [ctlCode s.cfg s.cfg.banksel1, w8 s.cfg.av2Base (BitVec.ofNat 8 (p % 256)),
        w8 s.cfg.av2Base (BitVec.ofNat 8 (p / 256)), ctlCode s.cfg s.cfg.banksel0, ctlCode s.cfg s.cfg.banksel1] →
    Answered s xs rs →
    ∃ t, Executes (.setPwm v) s t xs rs 0 ∧
      t.cache = some { c with pwm := BitVec.ofNat 12 p } ∧ t.selectors = s.selectors

/-- `SET_COOLING` and `SET_IMAGE_INVERT` (45_cache_setters R231, R232): one control-bank word, then the cache; `err` is the
class the word is answered with. -/
def Obligations.SetCoolingAndInvertWriteTheirBit : Prop :=
  ∀ (s : State) (c : Cache) (v : Bool) (a : Transport) (r : ResultClass) (f : Byte), Ready s c →
    s.replies.cmd 0 = some a → (a, r, f) ∈ answerClasses →
    (∃ t, Executes (.setCooling v) s t [.cmd (ctlWord s.cfg s.cfg.idxCooling v)] [r] 0 ∧ t.err = f ∧
      t.cache = some { c with cooling := v } ∧ t.selectors = s.selectors) ∧
    (∃ t, Executes (.setImageInvert v) s t [.cmd (ctlWord s.cfg s.cfg.idxInvert v)] [r] 0 ∧ t.err = f ∧
      t.cache = some { c with invert := v } ∧ t.selectors = s.selectors)

/-- `SET_ANALOG` (45_cache_setters R233): of a 16-bit register other than PWM exactly the `WRITE16` of the same operands, then
the mirror of the register, the P and I asymmetry included; of PWM exactly `SET_PWM` of the same unsigned value; of any other
id `NoSuchRegister`, nothing emitted and the cache untouched. -/
def Obligations.SetAnalogWritesAndMirrors : Prop :=
  ∀ (s : State) (c : Cache) (id : Byte) (v : Half) (xs : List Xfer) (rs : List ResultClass),
    (∀ (r : Reg16) (set : Cache → Cache), (id, r, set) ∈ mirrors v → Available s c →
      xs = sent (write16Words s.cfg r v) → Answered s xs rs →
      ∃ t, Executes (.setAnalog id v) s t xs rs 0 ∧ t.cache = some (set c) ∧
        exec (.write16 id v) s = .next { t with cache := some c }) ∧
    (id = 0x13 → exec (.setAnalog id v) s = exec (.setPwm (v.toNat : Int)) s) ∧
    (id = 0x13 → Available s c → xs = sent (write16Words s.cfg { sub := .a, k := 3 } (BitVec.ofNat 16 (min v.toNat 4095))) →
      Answered s xs rs →
      ∃ t, Executes (.setAnalog id v) s t xs rs 0 ∧ t.cache = some { c with pwm := BitVec.ofNat 12 (min v.toNat 4095) }) ∧
    (¬ (0x10 ≤ id.toNat ∧ id.toNat ≤ 0x13) → ¬ (0x20 ≤ id.toNat ∧ id.toNat ≤ 0x23) →
      ¬ (0x30 ≤ id.toNat ∧ id.toNat ≤ 0x33) → Available s c → ∃ t, Answers (.setAnalog id v) s t 0x08 0)

/-- `GET` answers the cached register zero-extended, without a transaction; an index that names no register is
`NoSuchRegister` (45_cache_setters R240). That `err` holds the response's error and `seq` is 0 after it is the model's choice
(notes/assumptions/13). -/
def Obligations.GetAnswersTheCachedValue : Prop :=
  ∀ (s : State) (c : Cache) (i : Byte), Available s c →
    (∀ v, (i, v) ∈ cacheRegisters c → ∃ t, Answers (.get i) s t 0 v) ∧
    ((∀ v, (i, v) ∉ cacheRegisters c) → ∃ t, Answers (.get i) s t 0x08 0)

/-- `OPEN` (45_cache_setters R243): while closed, answered `Ok` it leaves the reset state of 70_reset_and_hazards R290,
whatever the installation; answered otherwise XCP stays closed and the response is the class; no word is emitted and the frame
buffer is untouched; the answer is the settled one where the environment has settled it. While open it is refused. The model's
choices: the answer always arrives (notes/assumptions/27); a failed `OPEN` keeps the trace, `cstate`, the selector images and
the frame log (notes/assumptions/19), and leaves the response's error in `err` and `seq` 0 (notes/assumptions/13); the capture
timeout at reset is computed modulo 2^32 (notes/assumptions/15). -/
def Obligations.OpenAnsweredOkResets : Prop :=
  ∀ s : State,
    (s.outstanding = none → s.cache = none →
      ∃ (t : State) (r : OpenReply), exec .openDevice s = .next t ∧
        (s.env.opens.head? = none ∨ s.env.opens.head? = some r) ∧
        (r = .ok → t.cache = some (Cache.ofDefaults s.cfg.defaults) ∧ t.cstate = .idle ∧ t.err = 0 ∧ t.trace = [] ∧
          t.selectors = (0xFF, 0xFF, 0xFF) ∧ t.framelog = [] ∧ t.rsp = some { err := 0, value := 0 }) ∧
        (r ≠ .ok → t.cache = none ∧ t.err = (if r = .notFound then 0x04 else 0x20) ∧
          t.rsp = some { err := t.err, value := 0 } ∧ t.trace = s.trace ∧ t.cstate = s.cstate ∧
          t.selectors = s.selectors ∧ t.framelog = s.framelog) ∧
        t.seq = 0 ∧ t.outstanding = none ∧ t.cfg = s.cfg ∧ t.reqs = s.reqs ∧ (∀ a, t.readBuf a = s.readBuf a)) ∧
    (∀ c, Available s c → exec .openDevice s = .refused .alreadyOpen)

/-- `CLOSE` destroys the cache, emits nothing, answers `(0, 0)` (45_cache_setters R244). The model's choices: `cstate`, the
trace, the selector images and the frame log keep their values (notes/assumptions/19), and `err` and `seq` are 0 after it
(notes/assumptions/13). -/
def Obligations.CloseDestroysTheCache : Prop :=
  ∀ (s : State) (c : Cache), Available s c →
    ∃ t, exec .closeDevice s = .next t ∧ t.cache = none ∧ t.opened = false ∧ Emitted s t [] [] 0 ∧ t.err = 0 ∧
      Untouched s t ∧ t.selectors = s.selectors

/-- While closed every operation other than `OPEN` is refused (60_exceptions R275). -/
def Obligations.ClosedRefusesEveryOperationButOpen : Prop :=
  ∀ (s : State) (i : Instr), s.outstanding = none → s.cache = none → i ≠ .openDevice →
    exec i s = .refused .deviceClosed

/-! ## Errors, hangs, whole-machine rules -/

/-- A second request presented before the first is answered is refused, decodable or not (20_memory R80). -/
def Obligations.RequestWhileBlockedIsRefused : Prop :=
  ∀ (s : State) (o : Outstanding) (w : ReqWord) (rest : List ReqWord) (i : Instr), s.outstanding = some o →
    exec i s = .refused .requestWhileBusy ∧ (s.reqs = w :: rest → step s = .refused .requestWhileBusy)

/-- A transaction the environment never answers, at any position of the sequence of any operation, blocks the operation in it
(60_exceptions R272): the transactions before it are in the trace with their classes and have moved the selector images, none
after it is emitted, nothing is answered, and no cache write that follows it has happened. The model's choices: the
transaction itself is in neither `trace` nor `seq` (notes/assumptions/3); a capture's read that is never answered has changed
no byte of its region (notes/assumptions/22); a later step without a request keeps the state (notes/assumptions/31). -/
def Obligations.UnansweredWordBlocksTheSequencer : Prop :=
  ∀ (s : State) (c c' : Cache) (i : Instr) (xs : List Xfer) (rs : List ResultClass) (k : Nat) (x : Xfer), Available s c →
    xs = ((sequenceOf s.cfg c i).map Prod.fst).take k → (sequenceOf s.cfg c i)[k]? = some (x, c') →
    Answered s xs rs → s.replies.classes (xs ++ [x]) = none →
    ∃ t, exec i s = .next t ∧
      t.outstanding = some { xfer := x, timeoutMs := match x with
        | .cmd _ => s.cfg.ctrlTimeoutMs
        | .status => s.cfg.ctrlTimeoutMs
        | .bulk _ ms => ms } ∧
      t.rsp = none ∧ t.seq = k ∧ t.trace = s.trace ++ eventsOf xs rs ∧
      (.status ∉ xs → (∀ b n, i ≠ .captureFrames b n) → t.err = orFlags rs) ∧
      t.cache = some c' ∧ t.cstate = (if x.isBulk then .capturing else s.cstate) ∧ t.cfg = s.cfg ∧ t.reqs = s.reqs ∧
      ((∀ b n, i ≠ .captureFrames b n) → t.framelog = s.framelog ∧ ∀ a, t.readBuf a = s.readBuf a) ∧
      (∀ b n, i = .captureFrames b n → t.framelog = rs ∧
        ∀ a, a < b ∨ b + k * 163840 ≤ a → t.readBuf a = s.readBuf a) ∧
      t.selectors = (payloadAfter s.cfg.tselBase s.tsel (eventsOf xs rs),
        payloadAfter s.cfg.aselBase s.asel (eventsOf xs rs), payloadAfter s.cfg.auxaBase s.auxa (eventsOf xs rs)) ∧
      (t.reqs = [] → step t = .next t)

/-- While the bulk read of `CAPTURE_DATA` is outstanding the capture state is `Capturing` (44_capture R190): a read the
environment never answers stays there and has not answered (60_exceptions R272). The model's choices: the read is in neither
`trace` nor `seq` (notes/assumptions/3), and no byte of the region has been written (notes/assumptions/22). -/
def Obligations.UnansweredReadStaysCapturing : Prop :=
  ∀ (s : State) (c : Cache) (buf length : Nat), Available s c →
    s.replies.bulk 0 = none → 0 < length → buf + length - 1 ≤ 0xFFFFFFFF →
    ∃ t, exec (.captureData buf length) s = .next t ∧ t.cstate = .capturing ∧
      t.outstanding = some
        { xfer := .bulk length (2 * c.captureTimeoutMs.toNat), timeoutMs := 2 * c.captureTimeoutMs.toNat } ∧
      t.rsp = none ∧ t.seq = 0 ∧ t.trace = s.trace ∧ t.cache = some c ∧ t.cfg = s.cfg ∧ t.reqs = s.reqs ∧
      t.framelog = s.framelog ∧ (∀ a, t.readBuf a = s.readBuf a) ∧ t.selectors = s.selectors

/-- Every step keeps the invariant, from every state that has it. -/
def Obligations.StepKeepsTheInvariant : Prop :=
  ∀ s t : State, Inv s → step s = .next t → Inv t ∧ t.cfg = s.cfg

/-- The state after reset has the invariant. -/
def Obligations.ResetHasTheInvariant : Prop := Inv State.reset

/-- What reset leaves (10_state R46): open, idle, no error, empty ghost state, deselected selectors, and a cache that holds the
installation's `DEFAULTS`, whatever they are, with the capture timeout and the increments derived. -/
def Obligations.ResetLeavesTheStatedValues : Prop :=
  State.reset.opened = true ∧ State.reset.cstate = .idle ∧ State.reset.err = 0 ∧ State.reset.seq = 0 ∧
  State.reset.trace = [] ∧ State.reset.tsel = 0xFF ∧ State.reset.asel = 0xFF ∧ State.reset.auxa = 0xFF ∧
  State.reset.framelog = [] ∧
  ∃ c, State.reset.cache = some c ∧ c = Cache.ofDefaults State.reset.cfg.defaults ∧
    c.captureTimeoutMs = 5000 + State.reset.cfg.defaults.itimeMs ∧ c.woiXinc = 1 ∧ c.woiYinc = 1 ∧
    c.pwm.toNat ≤ 4095 ∧ c.woiXs.toNat < 4096 ∧ c.woiYs.toNat < 4096 ∧ c.woiXe.toNat < 4096 ∧ c.woiYe.toNat < 4096

/-- Only the two captures write the frame buffer, in any state and whatever the environment does (44_capture R193, R196, R197,
70_reset_and_hazards R290). -/
def Obligations.OnlyCapturesWriteTheFrameBuffer : Prop :=
  ∀ (s t : State) (i : Instr), exec i s = .next t → (∀ b n, i ≠ .captureFrames b n) → (∀ b n, i ≠ .captureData b n) →
    ∀ a, t.readBuf a = s.readBuf a

/-- No operation's list of transactions, cache write, capture state or selector image depends on what the environment answers
(10_state R40, R22, 60_exceptions R266): two runs that differ only in the answers, and both of which end, do the same. `OPEN`,
whose answer decides whether XCP opens, is apart. -/
def Obligations.TransactionsDoNotDependOnAnswers : Prop :=
  ∀ (s t t' : State) (i : Instr) (e : Env) (d : Draws), i ≠ .openDevice →
    exec i s = .next t → exec i { s with env := e, draws := d } = .next t' → t.outstanding = none → t'.outstanding = none →
    t'.trace.map Event.xfer = t.trace.map Event.xfer ∧ t'.seq = t.seq ∧ t'.cache = t.cache ∧ t'.cstate = t.cstate ∧
      t'.selectors = t.selectors

/-- Errors raised one after the other leave the same state in whatever order they are raised, and each class sets exactly its
own bit of `err` (60_exceptions R260, R266, R267): bit 0 `Timeout`, 1 `Underrun`, 2 `NotFound`, 3 `NoSuchRegister`,
4 `NotSupported`, 5 `Generic`; no other bit and nothing else changes. -/
def Obligations.ErrorsCombineInAnyOrder : Prop :=
  ∀ (s t : State) (rs qs : List ResultClass), rs.Perm qs → t = rs.foldl State.raise s →
    qs.foldl State.raise s = t ∧ t = { s with err := t.err } ∧
    t.err.getLsbD 0 = (s.err.getLsbD 0 || decide (.timeout ∈ rs)) ∧
    t.err.getLsbD 1 = (s.err.getLsbD 1 || decide (.underrun ∈ rs)) ∧
    t.err.getLsbD 2 = (s.err.getLsbD 2 || decide (.notFound ∈ rs)) ∧
    t.err.getLsbD 3 = (s.err.getLsbD 3 || decide (.noSuchRegister ∈ rs)) ∧
    t.err.getLsbD 4 = (s.err.getLsbD 4 || decide (.notSupported ∈ rs)) ∧
    t.err.getLsbD 5 = (s.err.getLsbD 5 || decide (.generic ∈ rs)) ∧
    t.err.getLsbD 6 = s.err.getLsbD 6 ∧ t.err.getLsbD 7 = s.err.getLsbD 7

/-! ## Command Channel -/

/-- The `err` value of every class (60_exceptions R260): bits 6 and 7 are clear in all, and two classes together set both
their bits. -/
def Obligations.ErrorFlagValues : Prop :=
  ResultClass.ok.flag = 0x00 ∧ ResultClass.timeout.flag = 0x01 ∧ ResultClass.underrun.flag = 0x02 ∧
  ResultClass.notFound.flag = 0x04 ∧ ResultClass.noSuchRegister.flag = 0x08 ∧ ResultClass.notSupported.flag = 0x10 ∧
  ResultClass.generic.flag = 0x20 ∧
  (∀ r : ResultClass, r.flag &&& 0xC0 = 0) ∧
  ∀ (s : State) (r q : ResultClass), s.err = 0 → ((s.raise r).raise q).err = r.flag ||| q.flag

/-- How the outcome of a transaction is classified (40_command_channel R133): of a command word or a status read; of a bulk
read of `n` bytes that returned `k`, of which none is `Generic`, fewer than asked for `Underrun`, all `Ok`. No other class is
returned by a transaction. -/
def Obligations.TransportOutcomesAreClassified : Prop :=
  (commandClass .ok = .ok ∧ commandClass .timeout = .timeout ∧ commandClass .error = .generic) ∧
  ∀ n k : Nat, 0 < n → k ≤ n →
    (k = n → bulkClass n k .ok = .ok) ∧ (0 < k → k < n → bulkClass n k .ok = .underrun) ∧
    (k = 0 → bulkClass n k .ok = .generic) ∧ bulkClass n k .timeout = .timeout ∧ bulkClass n k .error = .generic

/-- `Send` (40_command_channel R130): an answered command word is in the trace with its class, the class is in `err`, the word
is in the selector image whose space it lies in, `seq` has advanced, and nothing else but the environment has changed. -/
def Obligations.SendIsOneClassifiedTransaction : Prop :=
  ∀ (s : State) (w : CmdWord) (a : Transport) (r : ResultClass) (f : Byte), s.outstanding = none →
    s.replies.cmd 0 = some a → (a, r, f) ∈ answerClasses →
    ∃ (e : Env) (d : Draws), s.send w = { s with
        env := e, draws := d, trace := s.trace ++ [{ xfer := .cmd w, result := r }], err := s.err ||| f, seq := s.seq + 1
        tsel := if hi8 w = hi8 s.cfg.tselBase then lo8 w else s.tsel
        asel := if hi8 w = hi8 s.cfg.aselBase then lo8 w else s.asel
        auxa := if hi8 w = hi8 s.cfg.auxaBase then lo8 w else s.auxa } ∧
      ∀ k, (s.send w).replies.cmd k = s.replies.cmd (k + 1)

/-- `ReadStatus` (40_command_channel R131): an answered status read is in the trace with the transport's class; a good
response gives its temperature and EEPROM fields, a bad validity byte `Generic` and zeros, a failed read its class and zeros;
nothing else but the environment has changed. That a bad validity byte is in `err` and not in the trace is the model's reading
(notes/assumptions/26). -/
def Obligations.StatusReadIsOneClassifiedTransaction : Prop :=
  ∀ (s : State) (r : StatusReply) (q : ResultClass) (f : Byte), s.outstanding = none → s.replies.status 0 = some r →
    (r.transport, q, f) ∈ answerClasses →
    ∃ (e : Env) (d : Draws), s.readStatus.1 = { s with
        env := e, draws := d, trace := s.trace ++ [{ xfer := .status, result := q }], seq := s.seq + 1
        err := s.err ||| (if r.transport = .ok ∧ validOf s.cfg r.bytes[0] = false then 0x20 else f) } ∧
      s.readStatus.2 = (if r.transport = .ok ∧ validOf s.cfg r.bytes[0] = true then
          { temperature := tempOf s.cfg r.bytes[8] r.bytes[9], eepromSize := eepromSizeOf s.cfg r.bytes[1] }
        else { temperature := 0, eepromSize := 0 }) ∧
      ∀ k, s.readStatus.1.replies.status k = s.replies.status (k + 1)

/-- `BulkRead` (40_command_channel R132): an answered bulk read of `n` bytes is in the trace with its class, the bytes and the
class are handed back, `err`, the cache and the frame buffer are untouched, and nothing else but the environment has
changed. -/
def Obligations.BulkReadIsOneClassifiedTransaction : Prop :=
  ∀ (s : State) (n ms : Nat) (r : BulkReply) (q : ResultClass), s.outstanding = none → 0 < n → r.bytes.length ≤ n →
    s.replies.bulk 0 = some r →
    q = (if r.transport = .timeout then .timeout else if r.transport = .error then .generic
      else if r.bytes.length = n then .ok else if r.bytes.length = 0 then .generic else .underrun) →
    ∃ (e : Env) (d : Draws), s.bulkRead n ms = ({ s with
        env := e, draws := d, trace := s.trace ++ [{ xfer := .bulk n ms, result := q }], seq := s.seq + 1 },
        some { result := q, bytes := r.bytes }) ∧
      ∀ k, (s.bulkRead n ms).1.replies.bulk k = s.replies.bulk (k + 1)

/-! ## The body of ENCODE_AND_SEND and the cache -/

/-- The body of `ENCODE_AND_SEND`, given its flags, neither reads nor writes the cache (41_register_access R141): over any other
cache it does the same and leaves that cache. The request takes the flags from the cache, `c[0]` to `c[14]` (42_sensor_word
R173), and depends on no other field of it. The model's choice: R141 is taken of the body and R173 of the request's operand
(notes/assumptions/29). -/
def Obligations.EncodeAndSendBodyIgnoresTheCache : Prop :=
  (∀ (s : State) (flags : Cache) (k : Option Cache),
    State.encodeAndSend { s with cache := k } flags = { s.encodeAndSend flags with cache := k }) ∧
  ∀ (s t : State) (c d : Cache), s.cache = some c → exec .encodeAndSend s = .next t →
    d.gain = c.gain → d.xinv = c.xinv → d.yinv = c.yinv → d.linerepeat = c.linerepeat → d.refout = c.refout →
    d.reset = c.reset → d.skim = c.skim → d.power = c.power → d.current = c.current → d.bias = c.bias →
    d.bandwidth = c.bandwidth → d.outputfactor = c.outputfactor → d.itr = c.itr →
    d.multiplereadouts = c.multiplereadouts → d.nondestructive = c.nondestructive →
    exec .encodeAndSend { s with cache := some d } = .next { t with cache := some d }
end

