-- ==== Sys2Proof/Laws/State.lean ====
section
/-! SUPPORT. The small lemmas of the state's updates: what each leaves in every field, true by rfl, and the fields that the
guarded actions of an operation keep. -/

namespace Sys2Proof.Machine

variable (s : State)

/-! ### `State.begin` -/

@[simp] theorem State.begin_cfg : (s.begin).cfg = s.cfg := rfl
@[simp] theorem State.begin_reqs : (s.begin).reqs = s.reqs := rfl
@[simp] theorem State.begin_env : (s.begin).env = s.env := rfl
@[simp] theorem State.begin_draws : (s.begin).draws = s.draws := rfl
@[simp] theorem State.begin_cache : (s.begin).cache = s.cache := rfl
@[simp] theorem State.begin_cstate : (s.begin).cstate = s.cstate := rfl
@[simp] theorem State.begin_err : (s.begin).err = 0 := rfl
@[simp] theorem State.begin_seq : (s.begin).seq = 0 := rfl
@[simp] theorem State.begin_outstanding : (s.begin).outstanding = s.outstanding := rfl
@[simp] theorem State.begin_rsp : (s.begin).rsp = none := rfl
@[simp] theorem State.begin_trace : (s.begin).trace = s.trace := rfl
@[simp] theorem State.begin_tsel : (s.begin).tsel = s.tsel := rfl
@[simp] theorem State.begin_asel : (s.begin).asel = s.asel := rfl
@[simp] theorem State.begin_auxa : (s.begin).auxa = s.auxa := rfl
@[simp] theorem State.begin_framelog : (s.begin).framelog = s.framelog := rfl
@[simp] theorem State.begin_buf : (s.begin).buf = s.buf := rfl

/-! ### `State.raise` -/

@[simp] theorem State.raise_cfg (r : ResultClass) : (s.raise r).cfg = s.cfg := rfl
@[simp] theorem State.raise_reqs (r : ResultClass) : (s.raise r).reqs = s.reqs := rfl
@[simp] theorem State.raise_env (r : ResultClass) : (s.raise r).env = s.env := rfl
@[simp] theorem State.raise_draws (r : ResultClass) : (s.raise r).draws = s.draws := rfl
@[simp] theorem State.raise_cache (r : ResultClass) : (s.raise r).cache = s.cache := rfl
@[simp] theorem State.raise_cstate (r : ResultClass) : (s.raise r).cstate = s.cstate := rfl
@[simp] theorem State.raise_err (r : ResultClass) : (s.raise r).err = s.err ||| r.flag := rfl
@[simp] theorem State.raise_seq (r : ResultClass) : (s.raise r).seq = s.seq := rfl
@[simp] theorem State.raise_outstanding (r : ResultClass) : (s.raise r).outstanding = s.outstanding := rfl
@[simp] theorem State.raise_rsp (r : ResultClass) : (s.raise r).rsp = s.rsp := rfl
@[simp] theorem State.raise_trace (r : ResultClass) : (s.raise r).trace = s.trace := rfl
@[simp] theorem State.raise_tsel (r : ResultClass) : (s.raise r).tsel = s.tsel := rfl
@[simp] theorem State.raise_asel (r : ResultClass) : (s.raise r).asel = s.asel := rfl
@[simp] theorem State.raise_auxa (r : ResultClass) : (s.raise r).auxa = s.auxa := rfl
@[simp] theorem State.raise_framelog (r : ResultClass) : (s.raise r).framelog = s.framelog := rfl
@[simp] theorem State.raise_buf (r : ResultClass) : (s.raise r).buf = s.buf := rfl

/-! ### `State.answered` -/

@[simp] theorem State.answered_cfg (x : Xfer) (r : ResultClass) : (s.answered x r).cfg = s.cfg := rfl
@[simp] theorem State.answered_reqs (x : Xfer) (r : ResultClass) : (s.answered x r).reqs = s.reqs := rfl
@[simp] theorem State.answered_env (x : Xfer) (r : ResultClass) : (s.answered x r).env = s.env := rfl
@[simp] theorem State.answered_draws (x : Xfer) (r : ResultClass) : (s.answered x r).draws = s.draws := rfl
@[simp] theorem State.answered_cache (x : Xfer) (r : ResultClass) : (s.answered x r).cache = s.cache := rfl
@[simp] theorem State.answered_cstate (x : Xfer) (r : ResultClass) : (s.answered x r).cstate = s.cstate := rfl
@[simp] theorem State.answered_err (x : Xfer) (r : ResultClass) : (s.answered x r).err = s.err := rfl
@[simp] theorem State.answered_seq (x : Xfer) (r : ResultClass) : (s.answered x r).seq = s.seq + 1 := rfl
@[simp] theorem State.answered_outstanding (x : Xfer) (r : ResultClass) : (s.answered x r).outstanding = s.outstanding := rfl
@[simp] theorem State.answered_rsp (x : Xfer) (r : ResultClass) : (s.answered x r).rsp = s.rsp := rfl
@[simp] theorem State.answered_trace (x : Xfer) (r : ResultClass) : (s.answered x r).trace = s.trace ++ [{ xfer := x, result := r }] := rfl
@[simp] theorem State.answered_tsel (x : Xfer) (r : ResultClass) : (s.answered x r).tsel = s.tsel := rfl
@[simp] theorem State.answered_asel (x : Xfer) (r : ResultClass) : (s.answered x r).asel = s.asel := rfl
@[simp] theorem State.answered_auxa (x : Xfer) (r : ResultClass) : (s.answered x r).auxa = s.auxa := rfl
@[simp] theorem State.answered_framelog (x : Xfer) (r : ResultClass) : (s.answered x r).framelog = s.framelog := rfl
@[simp] theorem State.answered_buf (x : Xfer) (r : ResultClass) : (s.answered x r).buf = s.buf := rfl

/-! ### `State.unanswered` -/

@[simp] theorem State.unanswered_cfg (x : Xfer) : (s.unanswered x).cfg = s.cfg := rfl
@[simp] theorem State.unanswered_reqs (x : Xfer) : (s.unanswered x).reqs = s.reqs := rfl
@[simp] theorem State.unanswered_env (x : Xfer) : (s.unanswered x).env = s.env := rfl
@[simp] theorem State.unanswered_draws (x : Xfer) : (s.unanswered x).draws = s.draws := rfl
@[simp] theorem State.unanswered_cache (x : Xfer) : (s.unanswered x).cache = s.cache := rfl
@[simp] theorem State.unanswered_cstate (x : Xfer) : (s.unanswered x).cstate = stateDuring s.cstate x := rfl
@[simp] theorem State.unanswered_err (x : Xfer) : (s.unanswered x).err = s.err := rfl
@[simp] theorem State.unanswered_seq (x : Xfer) : (s.unanswered x).seq = s.seq := rfl
@[simp] theorem State.unanswered_outstanding (x : Xfer) : (s.unanswered x).outstanding = some { xfer := x, timeoutMs := timeoutOf s.cfg x } := rfl
@[simp] theorem State.unanswered_rsp (x : Xfer) : (s.unanswered x).rsp = s.rsp := rfl
@[simp] theorem State.unanswered_trace (x : Xfer) : (s.unanswered x).trace = s.trace := rfl
@[simp] theorem State.unanswered_tsel (x : Xfer) : (s.unanswered x).tsel = s.tsel := rfl
@[simp] theorem State.unanswered_asel (x : Xfer) : (s.unanswered x).asel = s.asel := rfl
@[simp] theorem State.unanswered_auxa (x : Xfer) : (s.unanswered x).auxa = s.auxa := rfl
@[simp] theorem State.unanswered_framelog (x : Xfer) : (s.unanswered x).framelog = s.framelog := rfl
@[simp] theorem State.unanswered_buf (x : Xfer) : (s.unanswered x).buf = s.buf := rfl

/-! ### `State.noteSelector` -/

@[simp] theorem State.noteSelector_cfg (w : CmdWord) : (s.noteSelector w).cfg = s.cfg := rfl
@[simp] theorem State.noteSelector_reqs (w : CmdWord) : (s.noteSelector w).reqs = s.reqs := rfl
@[simp] theorem State.noteSelector_env (w : CmdWord) : (s.noteSelector w).env = s.env := rfl
@[simp] theorem State.noteSelector_draws (w : CmdWord) : (s.noteSelector w).draws = s.draws := rfl
@[simp] theorem State.noteSelector_cache (w : CmdWord) : (s.noteSelector w).cache = s.cache := rfl
@[simp] theorem State.noteSelector_cstate (w : CmdWord) : (s.noteSelector w).cstate = s.cstate := rfl
@[simp] theorem State.noteSelector_err (w : CmdWord) : (s.noteSelector w).err = s.err := rfl
@[simp] theorem State.noteSelector_seq (w : CmdWord) : (s.noteSelector w).seq = s.seq := rfl
@[simp] theorem State.noteSelector_outstanding (w : CmdWord) : (s.noteSelector w).outstanding = s.outstanding := rfl
@[simp] theorem State.noteSelector_rsp (w : CmdWord) : (s.noteSelector w).rsp = s.rsp := rfl
@[simp] theorem State.noteSelector_trace (w : CmdWord) : (s.noteSelector w).trace = s.trace := rfl
@[simp] theorem State.noteSelector_tsel (w : CmdWord) : (s.noteSelector w).tsel = if inSpace s.cfg.tselBase w then lo8 w else s.tsel := rfl
@[simp] theorem State.noteSelector_asel (w : CmdWord) : (s.noteSelector w).asel = if inSpace s.cfg.aselBase w then lo8 w else s.asel := rfl
@[simp] theorem State.noteSelector_auxa (w : CmdWord) : (s.noteSelector w).auxa = if inSpace s.cfg.auxaBase w then lo8 w else s.auxa := rfl
@[simp] theorem State.noteSelector_framelog (w : CmdWord) : (s.noteSelector w).framelog = s.framelog := rfl
@[simp] theorem State.noteSelector_buf (w : CmdWord) : (s.noteSelector w).buf = s.buf := rfl

/-! ### `State.logFrame` -/

@[simp] theorem State.logFrame_cfg (r : ResultClass) : (s.logFrame r).cfg = s.cfg := rfl
@[simp] theorem State.logFrame_reqs (r : ResultClass) : (s.logFrame r).reqs = s.reqs := rfl
@[simp] theorem State.logFrame_env (r : ResultClass) : (s.logFrame r).env = s.env := rfl
@[simp] theorem State.logFrame_draws (r : ResultClass) : (s.logFrame r).draws = s.draws := rfl
@[simp] theorem State.logFrame_cache (r : ResultClass) : (s.logFrame r).cache = s.cache := rfl
@[simp] theorem State.logFrame_cstate (r : ResultClass) : (s.logFrame r).cstate = s.cstate := rfl
@[simp] theorem State.logFrame_err (r : ResultClass) : (s.logFrame r).err = s.err := rfl
@[simp] theorem State.logFrame_seq (r : ResultClass) : (s.logFrame r).seq = s.seq := rfl
@[simp] theorem State.logFrame_outstanding (r : ResultClass) : (s.logFrame r).outstanding = s.outstanding := rfl
@[simp] theorem State.logFrame_rsp (r : ResultClass) : (s.logFrame r).rsp = s.rsp := rfl
@[simp] theorem State.logFrame_trace (r : ResultClass) : (s.logFrame r).trace = s.trace := rfl
@[simp] theorem State.logFrame_tsel (r : ResultClass) : (s.logFrame r).tsel = s.tsel := rfl
@[simp] theorem State.logFrame_asel (r : ResultClass) : (s.logFrame r).asel = s.asel := rfl
@[simp] theorem State.logFrame_auxa (r : ResultClass) : (s.logFrame r).auxa = s.auxa := rfl
@[simp] theorem State.logFrame_framelog (r : ResultClass) : (s.logFrame r).framelog = s.framelog ++ [r] := rfl
@[simp] theorem State.logFrame_buf (r : ResultClass) : (s.logFrame r).buf = s.buf := rfl

/-! ### `State.fillRegion` -/

@[simp] theorem State.fillRegion_cfg (a n : Nat) (r : Received) : (s.fillRegion a n r).cfg = s.cfg := rfl
@[simp] theorem State.fillRegion_reqs (a n : Nat) (r : Received) : (s.fillRegion a n r).reqs = s.reqs := rfl
@[simp] theorem State.fillRegion_env (a n : Nat) (r : Received) : (s.fillRegion a n r).env = s.env := rfl
@[simp] theorem State.fillRegion_draws (a n : Nat) (r : Received) : (s.fillRegion a n r).draws = { s.draws with bytes := s.draws.bytes + (n - r.kept.length) } := rfl
@[simp] theorem State.fillRegion_cache (a n : Nat) (r : Received) : (s.fillRegion a n r).cache = s.cache := rfl
@[simp] theorem State.fillRegion_cstate (a n : Nat) (r : Received) : (s.fillRegion a n r).cstate = s.cstate := rfl
@[simp] theorem State.fillRegion_err (a n : Nat) (r : Received) : (s.fillRegion a n r).err = s.err := rfl
@[simp] theorem State.fillRegion_seq (a n : Nat) (r : Received) : (s.fillRegion a n r).seq = s.seq := rfl
@[simp] theorem State.fillRegion_outstanding (a n : Nat) (r : Received) : (s.fillRegion a n r).outstanding = s.outstanding := rfl
@[simp] theorem State.fillRegion_rsp (a n : Nat) (r : Received) : (s.fillRegion a n r).rsp = s.rsp := rfl
@[simp] theorem State.fillRegion_trace (a n : Nat) (r : Received) : (s.fillRegion a n r).trace = s.trace := rfl
@[simp] theorem State.fillRegion_tsel (a n : Nat) (r : Received) : (s.fillRegion a n r).tsel = s.tsel := rfl
@[simp] theorem State.fillRegion_asel (a n : Nat) (r : Received) : (s.fillRegion a n r).asel = s.asel := rfl
@[simp] theorem State.fillRegion_auxa (a n : Nat) (r : Received) : (s.fillRegion a n r).auxa = s.auxa := rfl
@[simp] theorem State.fillRegion_framelog (a n : Nat) (r : Received) : (s.fillRegion a n r).framelog = s.framelog := rfl
@[simp] theorem State.fillRegion_buf (a n : Nat) (r : Received) : (s.fillRegion a n r).buf = Memory.write s.buf a (r.kept ++ (s.drawBytes (n - r.kept.length)).1) := rfl

/-! ### `State.resetByOpen` -/

@[simp] theorem State.resetByOpen_cfg : (s.resetByOpen).cfg = s.cfg := rfl
@[simp] theorem State.resetByOpen_reqs : (s.resetByOpen).reqs = s.reqs := rfl
@[simp] theorem State.resetByOpen_env : (s.resetByOpen).env = s.env := rfl
@[simp] theorem State.resetByOpen_draws : (s.resetByOpen).draws = s.draws := rfl
@[simp] theorem State.resetByOpen_cache : (s.resetByOpen).cache = some (Cache.ofDefaults s.cfg.defaults) := rfl
@[simp] theorem State.resetByOpen_cstate : (s.resetByOpen).cstate = .idle := rfl
@[simp] theorem State.resetByOpen_err : (s.resetByOpen).err = 0 := rfl
@[simp] theorem State.resetByOpen_seq : (s.resetByOpen).seq = 0 := rfl
@[simp] theorem State.resetByOpen_outstanding : (s.resetByOpen).outstanding = s.outstanding := rfl
@[simp] theorem State.resetByOpen_rsp : (s.resetByOpen).rsp = s.rsp := rfl
@[simp] theorem State.resetByOpen_trace : (s.resetByOpen).trace = [] := rfl
@[simp] theorem State.resetByOpen_tsel : (s.resetByOpen).tsel = 0xFF := rfl
@[simp] theorem State.resetByOpen_asel : (s.resetByOpen).asel = 0xFF := rfl
@[simp] theorem State.resetByOpen_auxa : (s.resetByOpen).auxa = 0xFF := rfl
@[simp] theorem State.resetByOpen_framelog : (s.resetByOpen).framelog = [] := rfl
@[simp] theorem State.resetByOpen_buf : (s.resetByOpen).buf = s.buf := rfl

/-! ### `State.destroyCache` -/

@[simp] theorem State.destroyCache_cfg : (s.destroyCache).cfg = s.cfg := rfl
@[simp] theorem State.destroyCache_reqs : (s.destroyCache).reqs = s.reqs := rfl
@[simp] theorem State.destroyCache_env : (s.destroyCache).env = s.env := rfl
@[simp] theorem State.destroyCache_draws : (s.destroyCache).draws = s.draws := rfl
@[simp] theorem State.destroyCache_cache : (s.destroyCache).cache = none := rfl
@[simp] theorem State.destroyCache_cstate : (s.destroyCache).cstate = s.cstate := rfl
@[simp] theorem State.destroyCache_err : (s.destroyCache).err = s.err := rfl
@[simp] theorem State.destroyCache_seq : (s.destroyCache).seq = s.seq := rfl
@[simp] theorem State.destroyCache_outstanding : (s.destroyCache).outstanding = s.outstanding := rfl
@[simp] theorem State.destroyCache_rsp : (s.destroyCache).rsp = s.rsp := rfl
@[simp] theorem State.destroyCache_trace : (s.destroyCache).trace = s.trace := rfl
@[simp] theorem State.destroyCache_tsel : (s.destroyCache).tsel = s.tsel := rfl
@[simp] theorem State.destroyCache_asel : (s.destroyCache).asel = s.asel := rfl
@[simp] theorem State.destroyCache_auxa : (s.destroyCache).auxa = s.auxa := rfl
@[simp] theorem State.destroyCache_framelog : (s.destroyCache).framelog = s.framelog := rfl
@[simp] theorem State.destroyCache_buf : (s.destroyCache).buf = s.buf := rfl

/-! ### `State.answerUndecodable` -/

@[simp] theorem State.answerUndecodable_cfg : (s.answerUndecodable).cfg = s.cfg := rfl
@[simp] theorem State.answerUndecodable_reqs : (s.answerUndecodable).reqs = s.reqs := rfl
@[simp] theorem State.answerUndecodable_env : (s.answerUndecodable).env = s.env := rfl
@[simp] theorem State.answerUndecodable_draws : (s.answerUndecodable).draws = s.draws := rfl
@[simp] theorem State.answerUndecodable_cache : (s.answerUndecodable).cache = s.cache := rfl
@[simp] theorem State.answerUndecodable_cstate : (s.answerUndecodable).cstate = s.cstate := rfl
@[simp] theorem State.answerUndecodable_err : (s.answerUndecodable).err = s.err := rfl
@[simp] theorem State.answerUndecodable_seq : (s.answerUndecodable).seq = s.seq := rfl
@[simp] theorem State.answerUndecodable_outstanding : (s.answerUndecodable).outstanding = s.outstanding := rfl
@[simp] theorem State.answerUndecodable_rsp : (s.answerUndecodable).rsp = some { err := ResultClass.notSupported.flag, value := 0 } := rfl
@[simp] theorem State.answerUndecodable_trace : (s.answerUndecodable).trace = s.trace := rfl
@[simp] theorem State.answerUndecodable_tsel : (s.answerUndecodable).tsel = s.tsel := rfl
@[simp] theorem State.answerUndecodable_asel : (s.answerUndecodable).asel = s.asel := rfl
@[simp] theorem State.answerUndecodable_auxa : (s.answerUndecodable).auxa = s.auxa := rfl
@[simp] theorem State.answerUndecodable_framelog : (s.answerUndecodable).framelog = s.framelog := rfl
@[simp] theorem State.answerUndecodable_buf : (s.answerUndecodable).buf = s.buf := rfl

/-! ### `State.withFetchWord` -/

@[simp] theorem State.withFetchWord_cfg (nbits w : Nat) : (s.withFetchWord nbits w).cfg = s.cfg := rfl
@[simp] theorem State.withFetchWord_reqs (nbits w : Nat) : (s.withFetchWord nbits w).reqs = BitVec.ofNat 80 (w % 2 ^ nbits) :: s.reqs := rfl
@[simp] theorem State.withFetchWord_env (nbits w : Nat) : (s.withFetchWord nbits w).env = s.env := rfl
@[simp] theorem State.withFetchWord_draws (nbits w : Nat) : (s.withFetchWord nbits w).draws = s.draws := rfl
@[simp] theorem State.withFetchWord_cache (nbits w : Nat) : (s.withFetchWord nbits w).cache = s.cache := rfl
@[simp] theorem State.withFetchWord_cstate (nbits w : Nat) : (s.withFetchWord nbits w).cstate = s.cstate := rfl
@[simp] theorem State.withFetchWord_err (nbits w : Nat) : (s.withFetchWord nbits w).err = s.err := rfl
@[simp] theorem State.withFetchWord_seq (nbits w : Nat) : (s.withFetchWord nbits w).seq = s.seq := rfl
@[simp] theorem State.withFetchWord_outstanding (nbits w : Nat) : (s.withFetchWord nbits w).outstanding = s.outstanding := rfl
@[simp] theorem State.withFetchWord_rsp (nbits w : Nat) : (s.withFetchWord nbits w).rsp = s.rsp := rfl
@[simp] theorem State.withFetchWord_trace (nbits w : Nat) : (s.withFetchWord nbits w).trace = s.trace := rfl
@[simp] theorem State.withFetchWord_tsel (nbits w : Nat) : (s.withFetchWord nbits w).tsel = s.tsel := rfl
@[simp] theorem State.withFetchWord_asel (nbits w : Nat) : (s.withFetchWord nbits w).asel = s.asel := rfl
@[simp] theorem State.withFetchWord_auxa (nbits w : Nat) : (s.withFetchWord nbits w).auxa = s.auxa := rfl
@[simp] theorem State.withFetchWord_framelog (nbits w : Nat) : (s.withFetchWord nbits w).framelog = s.framelog := rfl
@[simp] theorem State.withFetchWord_buf (nbits w : Nat) : (s.withFetchWord nbits w).buf = s.buf := rfl

/-! ### The guard -/

@[simp] theorem State.blocked_of_idle (h : s.outstanding = none) : s.blocked = false := by
  simp [State.blocked, h]

theorem State.onward_of_idle (f : State → State) (h : s.outstanding = none) : s.onward f = f s := by
  simp [State.onward, h]

/-- A guarded action keeps whatever its unguarded action keeps. -/
theorem State.onward_keeps {α : Type} (p : State → α) (f : State → State) (h : p (f s) = p s) :
    p (s.onward f) = p s := by
  unfold State.onward; split <;> simp_all

/-! ### `State.respond` -/

@[simp] theorem State.respond_cfg (v : Word32) : (s.respond v).cfg = s.cfg := s.onward_keeps State.cfg _ rfl
@[simp] theorem State.respond_reqs (v : Word32) : (s.respond v).reqs = s.reqs := s.onward_keeps State.reqs _ rfl
@[simp] theorem State.respond_env (v : Word32) : (s.respond v).env = s.env := s.onward_keeps State.env _ rfl
@[simp] theorem State.respond_draws (v : Word32) : (s.respond v).draws = s.draws := s.onward_keeps State.draws _ rfl
@[simp] theorem State.respond_cache (v : Word32) : (s.respond v).cache = s.cache := s.onward_keeps State.cache _ rfl
@[simp] theorem State.respond_cstate (v : Word32) : (s.respond v).cstate = s.cstate := s.onward_keeps State.cstate _ rfl
@[simp] theorem State.respond_err (v : Word32) : (s.respond v).err = s.err := s.onward_keeps State.err _ rfl
@[simp] theorem State.respond_seq (v : Word32) : (s.respond v).seq = s.seq := s.onward_keeps State.seq _ rfl
@[simp] theorem State.respond_outstanding (v : Word32) : (s.respond v).outstanding = s.outstanding := s.onward_keeps State.outstanding _ rfl
@[simp] theorem State.respond_trace (v : Word32) : (s.respond v).trace = s.trace := s.onward_keeps State.trace _ rfl
@[simp] theorem State.respond_tsel (v : Word32) : (s.respond v).tsel = s.tsel := s.onward_keeps State.tsel _ rfl
@[simp] theorem State.respond_asel (v : Word32) : (s.respond v).asel = s.asel := s.onward_keeps State.asel _ rfl
@[simp] theorem State.respond_auxa (v : Word32) : (s.respond v).auxa = s.auxa := s.onward_keeps State.auxa _ rfl
@[simp] theorem State.respond_framelog (v : Word32) : (s.respond v).framelog = s.framelog := s.onward_keeps State.framelog _ rfl
@[simp] theorem State.respond_buf (v : Word32) : (s.respond v).buf = s.buf := s.onward_keeps State.buf _ rfl

/-! ### `State.storeCache` -/

@[simp] theorem State.storeCache_cfg (c : Cache) : (s.storeCache c).cfg = s.cfg := s.onward_keeps State.cfg _ rfl
@[simp] theorem State.storeCache_reqs (c : Cache) : (s.storeCache c).reqs = s.reqs := s.onward_keeps State.reqs _ rfl
@[simp] theorem State.storeCache_env (c : Cache) : (s.storeCache c).env = s.env := s.onward_keeps State.env _ rfl
@[simp] theorem State.storeCache_draws (c : Cache) : (s.storeCache c).draws = s.draws := s.onward_keeps State.draws _ rfl
@[simp] theorem State.storeCache_cstate (c : Cache) : (s.storeCache c).cstate = s.cstate := s.onward_keeps State.cstate _ rfl
@[simp] theorem State.storeCache_err (c : Cache) : (s.storeCache c).err = s.err := s.onward_keeps State.err _ rfl
@[simp] theorem State.storeCache_seq (c : Cache) : (s.storeCache c).seq = s.seq := s.onward_keeps State.seq _ rfl
@[simp] theorem State.storeCache_outstanding (c : Cache) : (s.storeCache c).outstanding = s.outstanding := s.onward_keeps State.outstanding _ rfl
@[simp] theorem State.storeCache_rsp (c : Cache) : (s.storeCache c).rsp = s.rsp := s.onward_keeps State.rsp _ rfl
@[simp] theorem State.storeCache_trace (c : Cache) : (s.storeCache c).trace = s.trace := s.onward_keeps State.trace _ rfl
@[simp] theorem State.storeCache_tsel (c : Cache) : (s.storeCache c).tsel = s.tsel := s.onward_keeps State.tsel _ rfl
@[simp] theorem State.storeCache_asel (c : Cache) : (s.storeCache c).asel = s.asel := s.onward_keeps State.asel _ rfl
@[simp] theorem State.storeCache_auxa (c : Cache) : (s.storeCache c).auxa = s.auxa := s.onward_keeps State.auxa _ rfl
@[simp] theorem State.storeCache_framelog (c : Cache) : (s.storeCache c).framelog = s.framelog := s.onward_keeps State.framelog _ rfl
@[simp] theorem State.storeCache_buf (c : Cache) : (s.storeCache c).buf = s.buf := s.onward_keeps State.buf _ rfl

/-! ### `State.storeCstate` -/

@[simp] theorem State.storeCstate_cfg (q : CaptureState) : (s.storeCstate q).cfg = s.cfg := s.onward_keeps State.cfg _ rfl
@[simp] theorem State.storeCstate_reqs (q : CaptureState) : (s.storeCstate q).reqs = s.reqs := s.onward_keeps State.reqs _ rfl
@[simp] theorem State.storeCstate_env (q : CaptureState) : (s.storeCstate q).env = s.env := s.onward_keeps State.env _ rfl
@[simp] theorem State.storeCstate_draws (q : CaptureState) : (s.storeCstate q).draws = s.draws := s.onward_keeps State.draws _ rfl
@[simp] theorem State.storeCstate_cache (q : CaptureState) : (s.storeCstate q).cache = s.cache := s.onward_keeps State.cache _ rfl
@[simp] theorem State.storeCstate_err (q : CaptureState) : (s.storeCstate q).err = s.err := s.onward_keeps State.err _ rfl
@[simp] theorem State.storeCstate_seq (q : CaptureState) : (s.storeCstate q).seq = s.seq := s.onward_keeps State.seq _ rfl
@[simp] theorem State.storeCstate_outstanding (q : CaptureState) : (s.storeCstate q).outstanding = s.outstanding := s.onward_keeps State.outstanding _ rfl
@[simp] theorem State.storeCstate_rsp (q : CaptureState) : (s.storeCstate q).rsp = s.rsp := s.onward_keeps State.rsp _ rfl
@[simp] theorem State.storeCstate_trace (q : CaptureState) : (s.storeCstate q).trace = s.trace := s.onward_keeps State.trace _ rfl
@[simp] theorem State.storeCstate_tsel (q : CaptureState) : (s.storeCstate q).tsel = s.tsel := s.onward_keeps State.tsel _ rfl
@[simp] theorem State.storeCstate_asel (q : CaptureState) : (s.storeCstate q).asel = s.asel := s.onward_keeps State.asel _ rfl
@[simp] theorem State.storeCstate_auxa (q : CaptureState) : (s.storeCstate q).auxa = s.auxa := s.onward_keeps State.auxa _ rfl
@[simp] theorem State.storeCstate_framelog (q : CaptureState) : (s.storeCstate q).framelog = s.framelog := s.onward_keeps State.framelog _ rfl
@[simp] theorem State.storeCstate_buf (q : CaptureState) : (s.storeCstate q).buf = s.buf := s.onward_keeps State.buf _ rfl

/-! ### The environment's answers -/

/-- The answers to come depend on `env` and `draws` alone, and on no byte drawn. -/
theorem State.replies_congr {s t : State} (he : t.env = s.env) (hd : t.draws = s.draws) : t.replies = s.replies := by
  simp [State.replies, he, hd]

@[simp] theorem State.begin_replies : (s.begin).replies = s.replies := rfl
@[simp] theorem State.raise_replies (r : ResultClass) : (s.raise r).replies = s.replies := rfl
@[simp] theorem State.answered_replies (x : Xfer) (r : ResultClass) : (s.answered x r).replies = s.replies := rfl
@[simp] theorem State.unanswered_replies (x : Xfer) : (s.unanswered x).replies = s.replies := rfl
@[simp] theorem State.noteSelector_replies (w : CmdWord) : (s.noteSelector w).replies = s.replies := rfl
@[simp] theorem State.logFrame_replies (r : ResultClass) : (s.logFrame r).replies = s.replies := rfl
@[simp] theorem State.fillRegion_replies (a n : Nat) (r : Received) : (s.fillRegion a n r).replies = s.replies := rfl
@[simp] theorem State.resetByOpen_replies : (s.resetByOpen).replies = s.replies := rfl
@[simp] theorem State.destroyCache_replies : (s.destroyCache).replies = s.replies := rfl
@[simp] theorem State.answerUndecodable_replies : (s.answerUndecodable).replies = s.replies := rfl
@[simp] theorem State.withFetchWord_replies (nbits w : Nat) : (s.withFetchWord nbits w).replies = s.replies := rfl
@[simp] theorem State.respond_replies (v : Word32) : (s.respond v).replies = s.replies := s.onward_keeps State.replies _ rfl
@[simp] theorem State.storeCache_replies (c : Cache) : (s.storeCache c).replies = s.replies := s.onward_keeps State.replies _ rfl
@[simp] theorem State.storeCstate_replies (q : CaptureState) : (s.storeCstate q).replies = s.replies := s.onward_keeps State.replies _ rfl

theorem State.respond_rsp_of_idle (v : Word32) (h : s.outstanding = none) :
    (s.respond v).rsp = some { err := s.err, value := v } := by
  simp [State.respond, State.onward, h]

theorem State.storeCache_cache_of_idle (c : Cache) (h : s.outstanding = none) : (s.storeCache c).cache = some c := by
  simp [State.storeCache, State.onward, h]

theorem State.storeCstate_cstate_of_idle (q : CaptureState) (h : s.outstanding = none) :
    (s.storeCstate q).cstate = q := by
  simp [State.storeCstate, State.onward, h]

end Sys2Proof.Machine
end

