-- ==== Sys2Proof/Laws/Memory.lean ====
section
/-! SUPPORT. The frame buffer: a read after a write gives the byte written, a write leaves every other address alone and
keeps the canonical form. -/

namespace Sys2Proof.Machine

theorem lookup_cons_cell (k : Nat) (v : Byte) (m : Memory) (x : Nat) :
    List.lookup x ((k, v) :: m) = if x = k then some v else List.lookup x m := by
  by_cases h : x = k
  · simp [h]
  · simp [List.lookup_cons, h, beq_eq_false_iff_ne.2 h]

theorem lookup_cellsFrom (bytes : List Byte) :
    ∀ a x, List.lookup x (cellsFrom a bytes) = if a ≤ x then bytes[x - a]? else none := by
  induction bytes with
  | nil => intro a x; simp [cellsFrom]
  | cons b bs ih =>
    intro a x
    rw [cellsFrom, lookup_cons_cell, ih]
    by_cases hx : x = a
    · simp [hx]
    · by_cases h : a + 1 ≤ x
      · have : x - a = (x - (a + 1)) + 1 := by omega
        simp [hx, h, this, show a ≤ x by omega]
      · simp [hx, h, show ¬ a ≤ x by omega]

theorem lookup_filter_of_true (m : Memory) (p : Nat → Bool) (x : Nat) (h : p x = true) :
    List.lookup x (m.filter fun c => p c.1) = List.lookup x m := by
  induction m with
  | nil => rfl
  | cons c cs ih =>
    obtain ⟨k, v⟩ := c
    rw [List.filter_cons, lookup_cons_cell]
    by_cases hp : p k = true
    · rw [if_pos hp, lookup_cons_cell, ih]
    · rw [if_neg hp, ih, if_neg (by rintro rfl; exact hp h)]

theorem lookup_filter_of_false (m : Memory) (p : Nat → Bool) (x : Nat) (h : p x = false) :
    List.lookup x (m.filter fun c => p c.1) = none := by
  induction m with
  | nil => rfl
  | cons c cs ih =>
    obtain ⟨k, v⟩ := c
    rw [List.filter_cons]
    by_cases hp : p k = true
    · rw [if_pos hp, lookup_cons_cell, ih, if_neg (by rintro rfl; simp [h] at hp)]
    · rw [if_neg hp, ih]

theorem lookup_append_cells (m n : Memory) (x : Nat) :
    List.lookup x (m ++ n) = (List.lookup x m).or (List.lookup x n) := by
  induction m with
  | nil => simp
  | cons c cs ih =>
    obtain ⟨k, v⟩ := c
    rw [List.cons_append, lookup_cons_cell, lookup_cons_cell, ih]
    by_cases h : x = k <;> simp [h]

/-- A read after a write: the byte written inside the bytes' addresses, the old byte outside. -/
theorem Memory.read_write (m : Memory) (a : Nat) (bytes : List Byte) (x : Nat) :
    Memory.read (Memory.write m a bytes) x
      = if a ≤ x ∧ x < a + bytes.length then bytes[x - a]? else Memory.read m x := by
  unfold Memory.read Memory.write
  rw [lookup_append_cells, lookup_append_cells, lookup_cellsFrom]
  by_cases h1 : x < a
  · rw [lookup_filter_of_true m (fun y => decide (y < a)) x (by simpa),
      lookup_filter_of_false m (fun y => decide (a + bytes.length ≤ y)) x (by simp; omega)]
    simp [show ¬ a ≤ x by omega]
  · rw [lookup_filter_of_false m (fun y => decide (y < a)) x (by simpa using h1)]
    by_cases h2 : x < a + bytes.length
    · rw [lookup_filter_of_false m (fun y => decide (a + bytes.length ≤ y)) x (by simpa using h2)]
      simp [show a ≤ x by omega, h2]
    · rw [lookup_filter_of_true m (fun y => decide (a + bytes.length ≤ y)) x (by simp; omega)]
      have : bytes[x - a]? = none := List.getElem?_eq_none (by omega)
      simp [show a ≤ x by omega, h2, this]

theorem mem_cellsFrom (bytes : List Byte) :
    ∀ a c, c ∈ cellsFrom a bytes → a ≤ c.1 ∧ c.1 < a + bytes.length := by
  induction bytes with
  | nil => intro a c h; simp [cellsFrom] at h
  | cons b bs ih =>
    intro a c h
    rw [cellsFrom, List.mem_cons] at h
    rcases h with rfl | h
    · simp
    · have := ih _ _ h; simp; omega

theorem pairwise_cellsFrom (bytes : List Byte) : ∀ a, (cellsFrom a bytes).Pairwise fun x y => x.1 < y.1 := by
  induction bytes with
  | nil => intro a; simp [cellsFrom]
  | cons b bs ih =>
    intro a
    rw [cellsFrom, List.pairwise_cons]
    exact ⟨fun c hc => (mem_cellsFrom _ _ _ hc).1, ih _⟩

/-- A write inside the address space keeps the canonical form. -/
theorem Memory.write_wf (m : Memory) (a : Nat) (bytes : List Byte) (hm : Memory.wf m)
    (hb : bytes = [] ∨ a + bytes.length - 1 ≤ Config.lastBufAddr) : Memory.wf (Memory.write m a bytes) := by
  obtain ⟨hp, hl⟩ := hm
  unfold Memory.write
  refine ⟨?_, ?_⟩
  · rw [List.pairwise_append, List.pairwise_append]
    refine ⟨hp.filter _, ⟨pairwise_cellsFrom _ _, hp.filter _, ?_⟩, ?_⟩
    · intro c hc d hd
      have h1 := mem_cellsFrom _ _ _ hc
      have h2 := (List.mem_filter.1 hd).2
      simp at h2; omega
    · intro c hc d hd
      have h1 := (List.mem_filter.1 hc).2
      simp at h1
      rcases List.mem_append.1 hd with hd | hd
      · have := mem_cellsFrom _ _ _ hd; omega
      · have h2 := (List.mem_filter.1 hd).2
        simp at h2; omega
  · intro c hc
    rcases List.mem_append.1 hc with hc | hc
    · exact hl c (List.mem_filter.1 hc).1
    · rcases List.mem_append.1 hc with hc | hc
      · have := mem_cellsFrom _ _ _ hc
        rcases hb with hb | hb
        · subst hb; simp at this; omega
        · omega
      · exact hl c (List.mem_filter.1 hc).1

end Sys2Proof.Machine
end

