-- ==== Sys2Proof/Laws/Transactions.lean ====
section
/-! SUPPORT. What the transactions of the Command Channel can do, said once: in an idle state each is answered, and then
emits exactly its transaction, or is never answered, and then blocks the sequencer in it; everywhere, each keeps what it does
not write. -/

namespace Sys2Proof.Machine

open Sys2Proof.Config

/-! ### The environment's answers -/

theorem Replies.afterAll_append (r : Replies) (xs ys : List Xfer) :
    r.afterAll (xs ++ ys) = (r.afterAll xs).afterAll ys := by
  simp [Replies.afterAll]

/-- The classes of two lists of transactions one after the other. -/
theorem Replies.classes_append (xs ys : List Xfer) : ∀ (r : Replies) (rs qs : List ResultClass),
    r.classes xs = some rs → (r.afterAll xs).classes ys = some qs → r.classes (xs ++ ys) = some (rs ++ qs) := by
  induction xs with
  | nil => intro r rs qs h k; cases h; exact k
  | cons x xs ih =>
    intro r rs qs h k
    simp only [Replies.classes, Option.bind_eq_some_iff, Option.map_eq_some_iff] at h
    obtain ⟨q, hq, ps, hp, rfl⟩ := h
    simp [Replies.classes, hq, ih (r.after x) ps qs hp k]

/-- The classes of the first of two lists and of the second, from those of both. -/
theorem Replies.classes_append_inv (xs ys : List Xfer) : ∀ (r : Replies) (cs : List ResultClass),
    r.classes (xs ++ ys) = some cs →
      ∃ rs qs, cs = rs ++ qs ∧ r.classes xs = some rs ∧ (r.afterAll xs).classes ys = some qs := by
  induction xs with
  | nil => intro r cs h; exact ⟨[], cs, rfl, rfl, h⟩
  | cons x xs ih =>
    intro r cs h
    simp only [List.cons_append, Replies.classes, Option.bind_eq_some_iff, Option.map_eq_some_iff] at h
    obtain ⟨q, hq, ps, hp, rfl⟩ := h
    obtain ⟨rs, qs, rfl, h1, h2⟩ := ih (r.after x) ps hp
    exact ⟨q :: rs, qs, rfl, by simp [Replies.classes, hq, h1], h2⟩

/-- One class for each transaction. -/
theorem Replies.classes_length (xs : List Xfer) : ∀ (r : Replies) (rs : List ResultClass),
    r.classes xs = some rs → rs.length = xs.length := by
  induction xs with
  | nil => intro r rs h; cases h; rfl
  | cons x xs ih =>
    intro r rs h
    simp only [Replies.classes, Option.bind_eq_some_iff, Option.map_eq_some_iff] at h
    obtain ⟨q, -, ps, hp, rfl⟩ := h
    simp [ih (r.after x) ps hp]

@[simp] theorem Replies.classes_singleton (r : Replies) (x : Xfer) :
    r.classes [x] = (r.classOf x).map fun q => [q] := by
  cases h : r.classOf x <;> simp [Replies.classes, h]

/-- The class of the word at position `k` of a list of words is that of the `k`-th answer on `CMD`. -/
theorem Answered.class_of_reply {s : State} {ws : List CmdWord} {rs : List ResultClass} (h : Answered s (sent ws) rs)
    (k : Nat) (hk : k < ws.length) : ∃ a, s.replies.cmd k = some a ∧ rs[k]? = some (commandClass a) := by
  suffices ∀ (ws : List CmdWord) (r : Replies) (rs : List ResultClass) (k : Nat), k < ws.length →
      r.classes (sent ws) = some rs → ∃ a, r.cmd k = some a ∧ rs[k]? = some (commandClass a) from
    this ws _ rs k hk h
  intro ws
  induction ws with
  | nil => intro r rs k hk; cases hk
  | cons w ws ih =>
    intro r rs k hk h
    simp only [sent, List.map_cons, Replies.classes, Replies.classOf, Option.bind_eq_some_iff,
      Option.map_eq_some_iff] at h
    obtain ⟨q, ⟨a, ha, rfl⟩, ps, hp, rfl⟩ := h
    cases k with
    | zero => exact ⟨a, ha, rfl⟩
    | succ k =>
      obtain ⟨b, hb, he⟩ := ih (r.after (.cmd w)) ps k (by simpa using hk) hp
      exact ⟨b, hb, by simpa using he⟩

/-- An answer settled in the queue of `CMD` is the answer. -/
theorem State.replies_cmd_of_queue {s : State} {k : Nat} {a : Option Transport} (h : s.env.cmd[k]? = some a) :
    s.replies.cmd k = a := by
  simp [State.replies, h]

/-- Some environment answers taken: only `env` and `draws` differ. -/
def State.afterTaking (s : State) (e : Env) (d : Draws) : State := { s with env := e, draws := d }

/-- Taking an answer on `CMD` gives the first answer and leaves the others. -/
theorem State.takeCommandReply_eq (s : State) (w : CmdWord) : ∃ e d,
    s.takeCommandReply = (s.replies.cmd 0, s.afterTaking e d) ∧
      (s.afterTaking e d).replies = s.replies.after (.cmd w) := by
  unfold State.takeCommandReply
  rcases hq : s.env.cmd with _ | ⟨q, rest⟩
  · refine ⟨s.env, { s.draws with cmd := s.draws.cmd + 1 }, by simp [State.replies, hq, State.afterTaking], ?_⟩
    simp [State.replies, State.afterTaking, Replies.after, hq, Nat.add_comm, Nat.add_left_comm]
  · refine ⟨{ s.env with cmd := rest }, s.draws, by simp [State.replies, hq, State.afterTaking], ?_⟩
    simp [State.replies, State.afterTaking, Replies.after, hq]

/-- Taking an answer on `STATUS` gives the first answer and leaves the others. -/
theorem State.takeStatusReply_eq (s : State) : ∃ e d,
    s.takeStatusReply = (s.replies.status 0, s.afterTaking e d) ∧
      (s.afterTaking e d).replies = s.replies.after .status := by
  unfold State.takeStatusReply
  rcases hq : s.env.status with _ | ⟨q, rest⟩
  · refine ⟨s.env, { s.draws with status := s.draws.status + 1 }, by simp [State.replies, hq, State.afterTaking], ?_⟩
    simp [State.replies, State.afterTaking, Replies.after, hq, Nat.add_comm, Nat.add_left_comm]
  · refine ⟨{ s.env with status := rest }, s.draws, by simp [State.replies, hq, State.afterTaking], ?_⟩
    simp [State.replies, State.afterTaking, Replies.after, hq]

/-- Taking an answer on `BULK` gives the first answer and leaves the others. -/
theorem State.takeBulkReply_eq (s : State) (n t : Nat) : ∃ e d,
    s.takeBulkReply = (s.replies.bulk 0, s.afterTaking e d) ∧
      (s.afterTaking e d).replies = s.replies.after (.bulk n t) := by
  unfold State.takeBulkReply
  rcases hq : s.env.bulk with _ | ⟨q, rest⟩
  · refine ⟨s.env, { s.draws with bulk := s.draws.bulk + 1 }, by simp [State.replies, hq, State.afterTaking], ?_⟩
    simp [State.replies, State.afterTaking, Replies.after, hq, Nat.add_comm, Nat.add_left_comm]
  · refine ⟨{ s.env with bulk := rest }, s.draws, by simp [State.replies, hq, State.afterTaking], ?_⟩
    simp [State.replies, State.afterTaking, Replies.after, hq]

/-- The environment's answer to `OPEN`: some reply; only `env` and `draws` differ after it. -/
theorem State.takeOpenReply_cases (s : State) : ∃ e d r, s.takeOpenReply = (r, s.afterTaking e d) := by
  unfold State.takeOpenReply
  split
  · exact ⟨_, s.draws, _, rfl⟩
  · exact ⟨s.env, { s.draws with opens := s.draws.opens + 1 }, _, rfl⟩

/-! ### Every state: the three things a transaction can do -/

/-- All a `Send` can do: nothing when blocked, block, or be answered. -/
theorem State.send_cases (s : State) (w : CmdWord) :
    (s.blocked = true ∧ s.send w = s) ∨
    (s.blocked = false ∧ s.replies.cmd 0 = none ∧ ∃ e d, s.send w = (s.afterTaking e d).unanswered (.cmd w) ∧
      (s.afterTaking e d).replies = s.replies.after (.cmd w)) ∨
    (s.blocked = false ∧ ∃ a e d, s.replies.cmd 0 = some a ∧
      s.send w = (((s.afterTaking e d).answered (.cmd w) (commandClass a)).raise (commandClass a)).noteSelector w ∧
      (s.afterTaking e d).replies = s.replies.after (.cmd w)) := by
  unfold State.send State.onward
  cases hb : s.blocked
  · right
    obtain ⟨e, d, h, k⟩ := s.takeCommandReply_eq w
    cases ha : s.replies.cmd 0 with
    | none => exact .inl ⟨rfl, rfl, e, d, by simp [h, ha], k⟩
    | some a => exact .inr ⟨rfl, a, e, d, rfl, by simp [h, ha], k⟩
  · exact .inl ⟨rfl, rfl⟩

/-- All a status read can do, with what it hands back. -/
theorem State.readStatus_cases (s : State) :
    (s.blocked = true ∧ s.readStatus.1 = s) ∨
    (s.blocked = false ∧ s.replies.status 0 = none ∧ ∃ e d, s.readStatus.1 = (s.afterTaking e d).unanswered .status ∧
      (s.afterTaking e d).replies = s.replies.after .status) ∨
    (s.blocked = false ∧ ∃ r e d, s.replies.status 0 = some r ∧
      s.readStatus = ((((s.afterTaking e d).answered .status (commandClass r.transport)).raise
        (commandClass r.transport)).raise (statusResult s.cfg r).1, (statusResult s.cfg r).2) ∧
      (s.afterTaking e d).replies = s.replies.after .status) := by
  unfold State.readStatus
  cases hb : s.blocked
  · right
    obtain ⟨e, d, h, k⟩ := s.takeStatusReply_eq
    cases ha : s.replies.status 0 with
    | none => exact .inl ⟨rfl, rfl, e, d, by simp [h, ha], k⟩
    | some a => exact .inr ⟨rfl, a, e, d, rfl, by simp [h, ha, State.afterTaking], k⟩
  · exact .inl ⟨rfl, rfl⟩

/-- All a bulk read can do, with what it hands back. -/
theorem State.bulkRead_cases (s : State) (n t : Nat) :
    (s.blocked = true ∧ s.bulkRead n t = (s, none)) ∨
    (s.blocked = false ∧ s.replies.bulk 0 = none ∧ ∃ e d,
      s.bulkRead n t = ((s.afterTaking e d).unanswered (.bulk n t), none) ∧
      (s.afterTaking e d).replies = s.replies.after (.bulk n t)) ∨
    (s.blocked = false ∧ ∃ r e d, s.replies.bulk 0 = some r ∧
      s.bulkRead n t = ((s.afterTaking e d).answered (.bulk n t) (receive n r).result, some (receive n r)) ∧
      (s.afterTaking e d).replies = s.replies.after (.bulk n t)) := by
  unfold State.bulkRead
  cases hb : s.blocked
  · right
    obtain ⟨e, d, h, k⟩ := s.takeBulkReply_eq n t
    cases ha : s.replies.bulk 0 with
    | none => exact .inl ⟨rfl, rfl, e, d, by simp [h, ha], k⟩
    | some a => exact .inr ⟨rfl, a, e, d, rfl, by simp [h, ha, State.afterTaking], k⟩
  · exact .inl ⟨rfl, rfl⟩

/-- The class a bulk read is recorded with, from the reply. -/
theorem receive_result (n : Nat) (r : BulkReply) :
    (receive n r).result = bulkClass n (min n r.bytes.length) r.transport := by
  simp [receive, List.length_take]

/-! ### Answered transactions -/

/-- From `s` to `t` exactly the transactions `xs` have been done, answered with `rs`; everything but `err`, the selector
images and the environment's answers is as it was. -/
structure Ran (s t : State) (xs : List Xfer) (rs : List ResultClass) : Prop where
  len : rs.length = xs.length
  trace : t.trace = s.trace ++ eventsOf xs rs
  seq : t.seq = s.seq + xs.length
  idle : t.outstanding = none
  replies : t.replies = s.replies.afterAll xs
  cfg : t.cfg = s.cfg
  reqs : t.reqs = s.reqs
  cache : t.cache = s.cache
  cstate : t.cstate = s.cstate
  framelog : t.framelog = s.framelog
  buf : t.buf = s.buf
  rsp : t.rsp = s.rsp

theorem eventsOf_append (xs ys : List Xfer) (rs qs : List ResultClass) (h : rs.length = xs.length) :
    eventsOf (xs ++ ys) (rs ++ qs) = eventsOf xs rs ++ eventsOf ys qs := by
  unfold eventsOf
  exact List.zipWith_append h.symm

theorem Ran.refl (s : State) (hi : s.outstanding = none) : Ran s s [] [] where
  len := rfl
  trace := by simp [eventsOf]
  seq := rfl
  idle := hi
  replies := rfl
  cfg := rfl
  reqs := rfl
  cache := rfl
  cstate := rfl
  framelog := rfl
  buf := rfl
  rsp := rfl

theorem Ran.trans {s t u : State} {xs ys : List Xfer} {rs qs : List ResultClass}
    (h : Ran s t xs rs) (k : Ran t u ys qs) : Ran s u (xs ++ ys) (rs ++ qs) where
  len := by simp [h.len, k.len]
  trace := by rw [k.trace, h.trace, eventsOf_append _ _ _ _ h.len, List.append_assoc]
  seq := by rw [k.seq, h.seq, List.length_append]; omega
  idle := k.idle
  replies := by rw [k.replies, h.replies, Replies.afterAll_append]
  cfg := k.cfg.trans h.cfg
  reqs := k.reqs.trans h.reqs
  cache := k.cache.trans h.cache
  cstate := k.cstate.trans h.cstate
  framelog := k.framelog.trans h.framelog
  buf := k.buf.trans h.buf
  rsp := k.rsp.trans h.rsp

/-- One answered transaction. -/
theorem State.answered_ran {s : State} (hi : s.outstanding = none) {e : Env} {d : Draws} (x : Xfer) (r : ResultClass)
    (h : (s.afterTaking e d).replies = s.replies.after x) : Ran s ((s.afterTaking e d).answered x r) [x] [r] := by
  constructor <;> first | rfl | exact hi | exact h

/-- `err` and the selector images are no part of what has been done. -/
theorem Ran.of_eq {s t : State} {xs : List Xfer} {rs : List ResultClass} (h : Ran s t xs rs) (b : Byte)
    (q : Byte × Byte × Byte) : Ran s { t with err := b, tsel := q.1, asel := q.2.1, auxa := q.2.2 } xs rs :=
  { h with }

theorem orFlags_append (rs qs : List ResultClass) : orFlags (rs ++ qs) = orFlags rs ||| orFlags qs := by
  induction rs with
  | nil => simp [orFlags]
  | cons r rs ih => simp [orFlags, ih, BitVec.or_assoc]

/-! ### Transactions that are never answered -/

/-- From `s` to `t` the transactions `xs` have been done, answered with `rs`, and the sequencer is blocked in the next one,
`x`; nothing of what follows has happened (60_exceptions R272). -/
structure Stopped (s t : State) (xs : List Xfer) (rs : List ResultClass) (x : Xfer) : Prop where
  len : rs.length = xs.length
  trace : t.trace = s.trace ++ eventsOf xs rs
  seq : t.seq = s.seq + xs.length
  outstanding : t.outstanding = some { xfer := x, timeoutMs := timeoutOf s.cfg x }
  cfg : t.cfg = s.cfg
  reqs : t.reqs = s.reqs
  cache : t.cache = s.cache
  cstate : t.cstate = stateDuring s.cstate x
  framelog : t.framelog = s.framelog
  buf : t.buf = s.buf
  rsp : t.rsp = s.rsp

theorem Stopped.blocked {s t : State} {xs : List Xfer} {rs : List ResultClass} {x : Xfer} (h : Stopped s t xs rs x) :
    t.blocked = true := by
  simp [State.blocked, h.outstanding]

/-- Transactions that were answered, then one that is not. -/
theorem Ran.stopped {s t u : State} {xs ys : List Xfer} {rs qs : List ResultClass} {x : Xfer} (h : Ran s t xs rs)
    (k : Stopped t u ys qs x) : Stopped s u (xs ++ ys) (rs ++ qs) x where
  len := by simp [h.len, k.len]
  trace := by rw [k.trace, h.trace, eventsOf_append _ _ _ _ h.len, List.append_assoc]
  seq := by rw [k.seq, h.seq, List.length_append]; omega
  outstanding := by rw [k.outstanding, h.cfg]
  cfg := k.cfg.trans h.cfg
  reqs := k.reqs.trans h.reqs
  cache := k.cache.trans h.cache
  cstate := by rw [k.cstate, h.cstate]
  framelog := k.framelog.trans h.framelog
  buf := k.buf.trans h.buf
  rsp := k.rsp.trans h.rsp

/-- One transaction that is never answered: `err` and the images are as they were. -/
theorem State.unanswered_stopped (s : State) (e : Env) (d : Draws) (x : Xfer) :
    Stopped s ((s.afterTaking e d).unanswered x) [] [] x ∧ ((s.afterTaking e d).unanswered x).err = s.err ∧
      ((s.afterTaking e d).unanswered x).selectors = s.selectors := by
  refine ⟨?_, rfl, rfl⟩
  constructor <;> first | rfl | exact (List.append_nil _).symm

/-! Blocked, nothing of what follows happens. -/

@[simp] theorem State.onward_of_blocked {s : State} (h : s.blocked = true) (f : State → State) : s.onward f = s := by
  simp [State.onward, h]

@[simp] theorem State.send_of_blocked {s : State} (h : s.blocked = true) (w : CmdWord) : s.send w = s :=
  State.onward_of_blocked h _

@[simp] theorem State.emit_of_blocked {s : State} (h : s.blocked = true) (ws : List CmdWord) : s.emit ws = s := by
  unfold State.emit
  induction ws with
  | nil => rfl
  | cons w ws ih => rw [List.foldl_cons, State.send_of_blocked h, ih]

@[simp] theorem State.respond_of_blocked {s : State} (h : s.blocked = true) (v : Word32) : s.respond v = s :=
  State.onward_of_blocked h _

@[simp] theorem State.storeCache_of_blocked {s : State} (h : s.blocked = true) (c : Cache) : s.storeCache c = s :=
  State.onward_of_blocked h _

@[simp] theorem State.storeCstate_of_blocked {s : State} (h : s.blocked = true) (q : CaptureState) :
    s.storeCstate q = s :=
  State.onward_of_blocked h _

@[simp] theorem State.readStatus_of_blocked {s : State} (h : s.blocked = true) : s.readStatus.1 = s := by
  simp [State.readStatus, h]

@[simp] theorem State.bulkRead_of_blocked {s : State} (h : s.blocked = true) (n t : Nat) :
    s.bulkRead n t = (s, none) := by
  simp [State.bulkRead, h]

@[simp] theorem State.settle_of_blocked {s : State} (h : s.blocked = true) (c : Cache) : s.settle c = s := by
  simp [State.settle, h]

/-! ### `Send` and `Emit` -/

/-- In an idle state an answered `Send` is one transaction, its class in `err`. -/
theorem State.send_ran {s : State} {w : CmdWord} {r : ResultClass} (hi : s.outstanding = none)
    (hr : s.replies.classOf (.cmd w) = some r) : Ran s (s.send w) [.cmd w] [r] ∧ (s.send w).err = s.err ||| r.flag := by
  obtain ⟨a, ha, rfl⟩ := Option.map_eq_some_iff.1 hr
  rcases s.send_cases w with ⟨hb, -⟩ | ⟨-, hn, -⟩ | ⟨-, a', e, d, ha', h, k⟩
  · rw [State.blocked_of_idle _ hi] at hb; cases hb
  · rw [hn] at ha; cases ha
  · rw [ha] at ha'; cases ha'
    rw [h]
    exact ⟨(State.answered_ran hi _ _ k).of_eq _ (_, _, _), rfl⟩

/-- In an idle state a `Send` that is never answered stops in its word. -/
theorem State.send_stopped {s : State} {w : CmdWord} (hi : s.outstanding = none)
    (hr : s.replies.classOf (.cmd w) = none) :
    Stopped s (s.send w) [] [] (.cmd w) ∧ (s.send w).err = s.err ∧ (s.send w).selectors = s.selectors := by
  rcases s.send_cases w with ⟨hb, -⟩ | ⟨-, -, e, d, h, -⟩ | ⟨-, a, e, d, ha, -⟩
  · rw [State.blocked_of_idle _ hi] at hb; cases hb
  · rw [h]; exact s.unanswered_stopped e d _
  · simp [Replies.classOf, ha] at hr

/-- The image of a selector after a list of emitted words. -/
def imageAfter (base : CmdWord) (old : Byte) (ws : List CmdWord) : Byte :=
  ws.foldl (fun p w => if inSpace base w then lo8 w else p) old

/-- The images an answered `Send` leaves. -/
theorem State.send_selectors {s : State} {w : CmdWord} {r : ResultClass} (hi : s.outstanding = none)
    (hr : s.replies.classOf (.cmd w) = some r) :
    (s.send w).selectors
      = (imageAfter s.cfg.tselBase s.tsel [w], imageAfter s.cfg.aselBase s.asel [w], imageAfter s.cfg.auxaBase s.auxa [w]) := by
  rcases s.send_cases w with ⟨hb, -⟩ | ⟨-, hn, -⟩ | ⟨-, a', e, d, -, h, -⟩
  · rw [State.blocked_of_idle _ hi] at hb; cases hb
  · simp [Replies.classOf, hn] at hr
  · rw [h]; rfl

/-- In an idle state `Emit` sends every word that the environment answers, whatever class each is answered with. -/
theorem State.emit_ran (ws : List CmdWord) : ∀ (s : State) (rs : List ResultClass), s.outstanding = none →
    s.replies.classes (sent ws) = some rs →
    Ran s (s.emit ws) (sent ws) rs ∧ (s.emit ws).err = s.err ||| orFlags rs := by
  induction ws with
  | nil => intro s rs hi h; cases h; exact ⟨Ran.refl s hi, by simp [State.emit, orFlags]⟩
  | cons w ws ih =>
    intro s rs hi h
    simp only [sent, List.map_cons, Replies.classes, Option.bind_eq_some_iff, Option.map_eq_some_iff] at h
    obtain ⟨q, hq, qs, hs, rfl⟩ := h
    obtain ⟨hr, he⟩ := State.send_ran hi hq
    obtain ⟨hrs, hes⟩ := ih (s.send w) qs hr.idle (by rw [hr.replies]; exact hs)
    refine ⟨hr.trans hrs, ?_⟩
    show ((s.send w).emit ws).err = _
    rw [hes, he]; simp [orFlags, BitVec.or_assoc]

/-- The images an answered `Emit` leaves. -/
theorem State.emit_selectors (ws : List CmdWord) : ∀ (s : State) (rs : List ResultClass), s.outstanding = none →
    s.replies.classes (sent ws) = some rs →
    (s.emit ws).selectors
      = (imageAfter s.cfg.tselBase s.tsel ws, imageAfter s.cfg.aselBase s.asel ws, imageAfter s.cfg.auxaBase s.auxa ws) := by
  induction ws with
  | nil => intro s rs _ _; simp [State.emit, State.selectors, imageAfter]
  | cons w ws ih =>
    intro s rs hi h
    simp only [sent, List.map_cons, Replies.classes, Option.bind_eq_some_iff, Option.map_eq_some_iff] at h
    obtain ⟨q, hq, qs, hs, rfl⟩ := h
    obtain ⟨hr, -⟩ := State.send_ran hi hq
    have h1 := State.send_selectors hi hq
    have h2 := ih (s.send w) qs hr.idle (by rw [hr.replies]; exact hs)
    simp only [State.selectors, Prod.mk.injEq] at h1
    show ((s.send w).emit ws).selectors = _
    rw [h2, h1.1, h1.2.1, h1.2.2, hr.cfg]; simp [imageAfter]

theorem State.emit_append (s : State) (ws vs : List CmdWord) : s.emit (ws ++ vs) = (s.emit ws).emit vs := by
  simp [State.emit]

/-- In an idle state `Emit` stops in the first word that is never answered: the classes of the words before it are in `err`
and their images stand. -/
theorem State.emit_stopped {s : State} (ws : List CmdWord) (w : CmdWord) (vs : List CmdWord) {rs : List ResultClass}
    (hi : s.outstanding = none) (h : s.replies.classes (sent ws) = some rs)
    (k : (s.replies.afterAll (sent ws)).classOf (.cmd w) = none) :
    Stopped s (s.emit (ws ++ w :: vs)) (sent ws) rs (.cmd w) ∧ (s.emit (ws ++ w :: vs)).err = s.err ||| orFlags rs ∧
      (s.emit (ws ++ w :: vs)).selectors = (imageAfter s.cfg.tselBase s.tsel ws, imageAfter s.cfg.aselBase s.asel ws,
        imageAfter s.cfg.auxaBase s.auxa ws) := by
  obtain ⟨hr, hf⟩ := State.emit_ran ws s rs hi h
  obtain ⟨hs, h1, h2⟩ := State.send_stopped (s := s.emit ws) (w := w) hr.idle (by rw [hr.replies]; exact k)
  have hu := hr.stopped hs
  rw [List.append_nil, List.append_nil] at hu
  have he : s.emit (ws ++ w :: vs) = (s.emit ws).send w := by
    rw [State.emit_append]
    exact State.emit_of_blocked hs.blocked vs
  rw [he]
  exact ⟨hu, h1.trans hf, h2.trans (State.emit_selectors ws s rs hi h)⟩

/-- The images `Emit` leaves are what its words in the trace say (10_state R42). -/
theorem payloadAfter_eventsOf (base : CmdWord) (ws : List CmdWord) : ∀ (old : Byte) (rs : List ResultClass),
    rs.length = ws.length → payloadAfter base old (eventsOf (sent ws) rs) = imageAfter base old ws := by
  induction ws with
  | nil => intro old rs _; rfl
  | cons w ws ih =>
    intro old rs h
    cases rs with
    | nil => cases h
    | cons r rs => exact ih _ rs (by simpa using h)

/-! ### Every state: what a transaction keeps -/

/-- What every `Send` keeps, blocked or not. -/
theorem State.send_keeps (s : State) (w : CmdWord) :
    (s.send w).cfg = s.cfg ∧ (s.send w).reqs = s.reqs ∧ (s.send w).cache = s.cache ∧
      (s.send w).cstate = s.cstate ∧ (s.send w).framelog = s.framelog ∧ (s.send w).buf = s.buf ∧
      (s.send w).rsp = s.rsp := by
  rcases s.send_cases w with ⟨-, h⟩ | ⟨-, -, e, d, h, -⟩ | ⟨-, a, e, d, -, h, -⟩ <;> rw [h] <;>
    exact ⟨rfl, rfl, rfl, rfl, rfl, rfl, rfl⟩

/-- What `Emit` keeps, blocked or not. -/
theorem State.emit_keeps (ws : List CmdWord) : ∀ s : State,
    (s.emit ws).cfg = s.cfg ∧ (s.emit ws).reqs = s.reqs ∧ (s.emit ws).cache = s.cache ∧
      (s.emit ws).cstate = s.cstate ∧ (s.emit ws).framelog = s.framelog ∧ (s.emit ws).buf = s.buf ∧
      (s.emit ws).rsp = s.rsp := by
  induction ws with
  | nil => intro s; exact ⟨rfl, rfl, rfl, rfl, rfl, rfl, rfl⟩
  | cons w ws ih =>
    intro s
    have h := ih (s.send w)
    have k := s.send_keeps w
    exact ⟨h.1.trans k.1, h.2.1.trans k.2.1, h.2.2.1.trans k.2.2.1, h.2.2.2.1.trans k.2.2.2.1,
      h.2.2.2.2.1.trans k.2.2.2.2.1, h.2.2.2.2.2.1.trans k.2.2.2.2.2.1, h.2.2.2.2.2.2.trans k.2.2.2.2.2.2⟩

/-! ### `ReadStatus` and `BulkRead` -/

/-- In an idle state an answered status read is one transaction; the value and the class of the validity test are those of
the reply. -/
theorem State.readStatus_ran {s : State} {r : StatusReply} (hi : s.outstanding = none)
    (hr : s.replies.status 0 = some r) :
    Ran s s.readStatus.1 [.status] [commandClass r.transport] ∧
      s.readStatus.1.err = s.err ||| (commandClass r.transport).flag ||| (statusResult s.cfg r).1.flag ∧
      s.readStatus.1.selectors = s.selectors ∧ s.readStatus.2 = (statusResult s.cfg r).2 := by
  rcases s.readStatus_cases with ⟨hb, -⟩ | ⟨-, hn, -⟩ | ⟨-, r', e, d, hr', h, k⟩
  · rw [State.blocked_of_idle _ hi] at hb; cases hb
  · rw [hn] at hr; cases hr
  · rw [hr] at hr'; cases hr'
    rw [h]
    exact ⟨(State.answered_ran hi _ _ k).of_eq _ (_, _, _), rfl, rfl, rfl⟩

/-- In an idle state a status read that is never answered stops in it. -/
theorem State.readStatus_stopped {s : State} (hi : s.outstanding = none) (hr : s.replies.status 0 = none) :
    Stopped s s.readStatus.1 [] [] .status ∧ s.readStatus.1.err = s.err ∧
      s.readStatus.1.selectors = s.selectors := by
  rcases s.readStatus_cases with ⟨hb, -⟩ | ⟨-, -, e, d, h, -⟩ | ⟨-, r, e, d, hr', -⟩
  · rw [State.blocked_of_idle _ hi] at hb; cases hb
  · rw [h]; exact s.unanswered_stopped e d _
  · rw [hr'] at hr; cases hr

/-- In an idle state an answered bulk read is one transaction; what it hands back is the reply, cut at the count asked for and
classified. -/
theorem State.bulkRead_ran {s : State} {r : BulkReply} (n t : Nat) (hi : s.outstanding = none)
    (hr : s.replies.bulk 0 = some r) :
    Ran s (s.bulkRead n t).1 [.bulk n t] [(receive n r).result] ∧ (s.bulkRead n t).1.err = s.err ∧
      (s.bulkRead n t).1.selectors = s.selectors ∧ (s.bulkRead n t).2 = some (receive n r) := by
  rcases s.bulkRead_cases n t with ⟨hb, -⟩ | ⟨-, hn, -⟩ | ⟨-, r', e, d, hr', h, k⟩
  · rw [State.blocked_of_idle _ hi] at hb; cases hb
  · rw [hn] at hr; cases hr
  · rw [hr] at hr'; cases hr'
    rw [h]
    exact ⟨State.answered_ran hi _ _ k, rfl, rfl, rfl⟩

/-- In an idle state a bulk read that is never answered stops in it and hands nothing back. -/
theorem State.bulkRead_stopped {s : State} (n t : Nat) (hi : s.outstanding = none) (hr : s.replies.bulk 0 = none) :
    Stopped s (s.bulkRead n t).1 [] [] (.bulk n t) ∧ (s.bulkRead n t).1.err = s.err ∧
      (s.bulkRead n t).1.selectors = s.selectors ∧ (s.bulkRead n t).2 = none := by
  rcases s.bulkRead_cases n t with ⟨hb, -⟩ | ⟨-, -, e, d, h, -⟩ | ⟨-, r, e, d, hr', -⟩
  · rw [State.blocked_of_idle _ hi] at hb; cases hb
  · rw [h]
    obtain ⟨h1, h2, h3⟩ := s.unanswered_stopped e d (.bulk n t)
    exact ⟨h1, h2, h3, rfl⟩
  · rw [hr'] at hr; cases hr

/-- An answered `Settle` is one full-frame bulk read whose class is ORed into `err`; nothing is written to the frame
buffer. -/
theorem State.settle_ran {s : State} {c : Cache} {r : ResultClass} (hi : s.outstanding = none)
    (hr : s.replies.classOf (.bulk Config.frameBytes (bulkTimeout c)) = some r) :
    Ran s (s.settle c) [.bulk Config.frameBytes (bulkTimeout c)] [r] ∧ (s.settle c).err = s.err ||| r.flag ∧
      (s.settle c).selectors = s.selectors := by
  obtain ⟨q, hq, rfl⟩ := Option.map_eq_some_iff.1 hr
  obtain ⟨h, he, hs, hv⟩ := State.bulkRead_ran Config.frameBytes (bulkTimeout c) hi hq
  have hc : s.settle c = (s.bulkRead Config.frameBytes (bulkTimeout c)).1.raise (receive Config.frameBytes q).result := by
    unfold State.settle; simp only [hv]
  rw [← receive_result, hc]
  exact ⟨{ h with }, by rw [State.raise_err, he], hs⟩

/-- A `Settle` that is never answered stops in its bulk read. -/
theorem State.settle_stopped {s : State} {c : Cache} (hi : s.outstanding = none)
    (hr : s.replies.classOf (.bulk Config.frameBytes (bulkTimeout c)) = none) :
    Stopped s (s.settle c) [] [] (.bulk Config.frameBytes (bulkTimeout c)) ∧ (s.settle c).err = s.err ∧
      (s.settle c).selectors = s.selectors := by
  obtain ⟨h1, h2, h3, hv⟩ := State.bulkRead_stopped Config.frameBytes (bulkTimeout c) hi (Option.map_eq_none_iff.1 hr)
  have hc : s.settle c = (s.bulkRead Config.frameBytes (bulkTimeout c)).1 := by
    unfold State.settle; simp only [hv]
  rw [hc]
  exact ⟨h1, h2, h3⟩

end Sys2Proof.Machine
end

