-- ==== Sys2Proof/Laws/Words.lean ====
section
/-! SUPPORT. Which space a built word lies in, under the constraints of 20_memory R77: what the selector images see of each
word an operation emits. -/

namespace Sys2Proof.Machine

open Sys2Proof.Config

theorem hi8_toNat (w : CmdWord) : (hi8 w).toNat = w.toNat / 256 := by
  unfold hi8
  rw [BitVec.extractLsb'_toNat, Nat.shiftRight_eq_div_pow]
  have := w.isLt
  norm_num at this ⊢
  omega

theorem lo8_toNat (w : CmdWord) : (lo8 w).toNat = w.toNat % 256 := by
  unfold lo8
  rw [BitVec.extractLsb'_toNat]
  simp

/-- The base plus the payload: `|` and `+` give the same word (30_encoding R101). -/
theorem or_toNat_of_aligned (b p k : Nat) (hb : b % 2 ^ k = 0) (hp : p < 2 ^ k) : b ||| p = b + p := by
  obtain ⟨c, rfl⟩ := Nat.dvd_of_mod_eq_zero hb
  rw [Nat.mul_comm, ← Nat.shiftLeft_eq, Nat.shiftLeft_add_eq_or_of_lt hp]

theorem w8_toNat (b : CmdWord) (p : Byte) (hb : b.toNat % 256 = 0) : (w8 b p).toNat = b.toNat + p.toNat := by
  unfold w8
  rw [BitVec.toNat_or, BitVec.toNat_setWidth]
  have := p.isLt
  rw [Nat.mod_eq_of_lt (by omega)]
  exact or_toNat_of_aligned _ _ 8 hb this

theorem w12_toNat (b : CmdWord) (p : BitVec 12) (hb : b.toNat % 4096 = 0) : (w12 b p).toNat = b.toNat + p.toNat := by
  unfold w12
  rw [BitVec.toNat_or, BitVec.toNat_setWidth]
  have := p.isLt
  rw [Nat.mod_eq_of_lt (by omega)]
  exact or_toNat_of_aligned _ _ 12 hb this

theorem v32Word_toNat (b : CmdWord) (k : Nat) (v : Word32) (hk : k < 4) (hb : b.toNat % 1024 = 0) :
    (v32Word b k v).toNat = b.toNat + k * 256 + (byteOf k v).toNat := by
  unfold v32Word
  have h1 := b.isLt
  have h2 := (byteOf k v).isLt
  have h3 : (b + BitVec.ofNat 16 (k * 0x100)).toNat = b.toNat + k * 256 := by
    rw [BitVec.toNat_add, BitVec.toNat_ofNat]; omega
  rw [BitVec.toNat_or, BitVec.toNat_setWidth, h3, Nat.mod_eq_of_lt (a := (byteOf k v).toNat) (by omega)]
  exact or_toNat_of_aligned _ _ 8 (by omega) h2

/-- A word lies in a space exactly when its number is in the space's interval. -/
theorem inSpace_iff (b w : CmdWord) (hb : b.toNat % 256 = 0) :
    inSpace b w = true ↔ b.toNat ≤ w.toNat ∧ w.toNat < b.toNat + 256 := by
  unfold inSpace
  rw [beq_iff_eq, ← BitVec.toNat_inj, hi8_toNat, hi8_toNat]
  omega

theorem lo8_w8 (b : CmdWord) (p : Byte) (hb : b.toNat % 256 = 0) : lo8 (w8 b p) = p := by
  apply BitVec.eq_of_toNat_eq
  rw [lo8_toNat, w8_toNat b p hb]
  have := p.isLt
  omega

theorem inSpace_self (b : CmdWord) (p : Byte) (hb : b.toNat % 256 = 0) : inSpace b (w8 b p) = true := by
  rw [inSpace_iff _ _ hb, w8_toNat b p hb]
  have := p.isLt
  omega

/-! ### The spaces of an admissible installation -/

theorem wordSets_eq (P : Params) : P.wordSets = Space.all.map fun g => ((g.base P).toNat, g.size) := rfl

theorem Space.mem_all (g : Space) : g ∈ Space.all := by cases g <;> decide

theorem admissible_aligned {P : Params} (h : P.Admissible) (g : Space) : (g.base P).toNat % g.size = 0 := by
  have := h.1
  rw [wordSets_eq] at this
  exact this _ (List.mem_map_of_mem g.mem_all)

/-- A relation that holds pairwise and does not care for the order holds of any two different members. -/
theorem pairwise_of_mem {α : Type} {R : α → α → Prop} (hsymm : ∀ a b, R a b → R b a) {l : List α}
    (hl : l.Pairwise R) : ∀ a ∈ l, ∀ b ∈ l, a ≠ b → R a b := by
  induction l with
  | nil => simp
  | cons x xs ih =>
    rw [List.pairwise_cons] at hl
    intro a ha b hb hne
    rcases List.mem_cons.1 ha with ha | ha <;> rcases List.mem_cons.1 hb with hb | hb
    · exact absurd (ha.trans hb.symm) hne
    · exact ha ▸ hl.1 b hb
    · exact hsymm _ _ (hb ▸ hl.1 a ha)
    · exact ih hl.2 a ha b hb hne

theorem admissible_disjoint {P : Params} (h : P.Admissible) (g g' : Space) (hne : g ≠ g') :
    (g.base P).toNat + g.size ≤ (g'.base P).toNat ∨ (g'.base P).toNat + g'.size ≤ (g.base P).toNat := by
  have hp := h.2.1
  rw [wordSets_eq, List.pairwise_map] at hp
  exact pairwise_of_mem (fun _ _ k => Or.symm k) hp g g.mem_all g' g'.mem_all hne

theorem Space.holds_iff (P : Params) (w : CmdWord) (g : Space) :
    g.holds P w = true ↔ (g.base P).toNat ≤ w.toNat ∧ w.toNat < (g.base P).toNat + g.size := by
  simp [Space.holds]

/-- A word lies in at most one space (30_encoding R113). -/
theorem admissible_holds_unique {P : Params} (h : P.Admissible) {w : CmdWord} {g g' : Space}
    (hg : g.holds P w = true) (hg' : g'.holds P w = true) : g = g' := by
  by_contra hne
  rw [Space.holds_iff] at hg hg'
  have := admissible_disjoint h g g' hne
  omega

/-- Parsing a word that lies in a space gives that space and its offset (30_encoding R113). -/
theorem parseWord_of_holds {P : Params} (h : P.Admissible) {w : CmdWord} {g : Space} (hg : g.holds P w = true) :
    parseWord P w = some (g, w.toNat - (g.base P).toNat) := by
  unfold parseWord
  have : Space.all.find? (Space.holds P w) = some g := by
    cases hf : Space.all.find? (Space.holds P w) with
    | none => exact absurd hg (List.find?_eq_none.1 hf g g.mem_all)
    | some g' => rw [admissible_holds_unique h (List.find?_some hf) hg]
  rw [this]; rfl

theorem w8_holds {P : Params} (h : P.Admissible) (g : Space) (p : Byte) (hs : g.size = 0x100) :
    g.holds P (w8 (g.base P) p) = true := by
  have ha := admissible_aligned h g
  rw [hs] at ha
  rw [Space.holds_iff, w8_toNat _ _ ha, hs]
  have := p.isLt
  omega

theorem w12_holds {P : Params} (h : P.Admissible) (g : Space) (p : BitVec 12) (hs : g.size = 0x1000) :
    g.holds P (w12 (g.base P) p) = true := by
  have ha := admissible_aligned h g
  rw [hs] at ha
  rw [Space.holds_iff, w12_toNat _ _ ha, hs]
  have := p.isLt
  omega

theorem v32Word_holds {P : Params} (h : P.Admissible) (g : Space) (k : Nat) (v : Word32) (hk : k < 4)
    (hs : g.size = 0x400) : g.holds P (v32Word (g.base P) k v) = true := by
  have ha := admissible_aligned h g
  rw [hs] at ha
  rw [Space.holds_iff, v32Word_toNat _ _ _ hk ha, hs]
  have := (byteOf k v).isLt
  omega

/-- For an 8-bit-payload space the tag test is membership of the space. -/
theorem inSpace_eq_holds {P : Params} (h : P.Admissible) (g : Space) (w : CmdWord) (hs : g.size = 0x100) :
    inSpace (g.base P) w = g.holds P w := by
  have ha := admissible_aligned h g
  rw [hs] at ha
  rw [Bool.eq_iff_iff, inSpace_iff _ _ ha, Space.holds_iff, hs]

/-- A word of another space does not touch a selector's image. -/
theorem inSpace_of_other {P : Params} (h : P.Admissible) {g g' : Space} {w : CmdWord} (hs : g.size = 0x100)
    (hne : g' ≠ g) (hw : g'.holds P w = true) : inSpace (g.base P) w = false := by
  rw [inSpace_eq_holds h g w hs]
  by_contra hc
  exact hne (admissible_holds_unique h hw (by simpa using hc))

theorem imageAfter_cons (base : CmdWord) (old : Byte) (w : CmdWord) (ws : List CmdWord) :
    imageAfter base old (w :: ws) = imageAfter base (if inSpace base w then lo8 w else old) ws := rfl

/-- Words of other spaces leave a selector's image alone. -/
theorem imageAfter_of_others (base : CmdWord) (ws : List CmdWord) :
    ∀ old, (∀ w ∈ ws, inSpace base w = false) → imageAfter base old ws = old := by
  induction ws with
  | nil => intro old _; rfl
  | cons w ws ih =>
    intro old h
    rw [imageAfter_cons, h w (by simp)]
    exact ih _ fun x hx => h x (by simp [hx])

/-- A last word of the selector's own space sets the image to its payload. -/
theorem imageAfter_append_self (base : CmdWord) (old : Byte) (ws : List CmdWord) (p : Byte)
    (hb : base.toNat % 256 = 0) : imageAfter base old (ws ++ [w8 base p]) = p := by
  simp [imageAfter, inSpace_self base p hb, lo8_w8 base p hb]

end Sys2Proof.Machine
end

