-- ==== Sys2Proof/Laws/Operations.lean ====
section
/-! SUPPORT. The shapes operations are made of, said once: how an operation is taken or refused, what its response leaves,
and which selector images the words of an operation touch. -/

namespace Sys2Proof.Machine

open Sys2Proof.Config

/-! ### Taking an operation -/

/-- An open and idle XCP runs the body from the started state. -/
theorem State.accept_of_available {s : State} {c : Cache} (h : Available s c)
    (body : Cache → State → Host.Outcome State Fault Refusal) : s.accept body = body c s.begin := by
  unfold State.accept
  rw [State.blocked_of_idle _ h.1, h.2]; rfl

/-- A body run by an operation that answered a next state: XCP was open and idle. -/
theorem State.accept_next {s t : State} {body : Cache → State → Host.Outcome State Fault Refusal}
    (h : s.accept body = .next t) : ∃ c, Available s c ∧ body c s.begin = .next t := by
  unfold State.accept at h
  cases hb : s.blocked
  · cases hc : s.cache with
    | none => simp [hb, hc] at h
    | some c =>
      simp only [hb, hc] at h
      refine ⟨c, ⟨?_, hc⟩, h⟩
      simpa [State.blocked] using hb
  · simp [hb] at h

/-! ### Answering -/

/-- What the response of an operation that has done the transactions `xs` since its start leaves. -/
theorem Ran.respond {s t : State} {xs : List Xfer} {rs : List ResultClass} (h : Ran s.begin t xs rs) (v : Word32) :
    Emitted s (t.respond v) xs rs v where
  answers := h.len
  trace := by rw [State.respond_trace, h.trace]; rfl
  seq := by rw [State.respond_seq, h.seq]; simp
  rsp := by rw [State.respond_rsp_of_idle _ _ h.idle, State.respond_err]
  idle := by rw [State.respond_outstanding, h.idle]
  replies := by rw [State.respond_replies, h.replies]; rfl

theorem Ran.untouched {s t : State} {xs : List Xfer} {rs : List ResultClass} (h : Ran s.begin t xs rs) :
    Untouched s t where
  cfg := h.cfg
  reqs := h.reqs
  cstate := h.cstate
  framelog := h.framelog
  buf := fun a => by unfold State.readBuf; rw [h.buf]; rfl

theorem Untouched.respond {s t : State} (h : Untouched s t) (v : Word32) : Untouched s (t.respond v) where
  cfg := by simpa using h.cfg
  reqs := by simpa using h.reqs
  cstate := by simpa using h.cstate
  framelog := by simpa using h.framelog
  buf := fun a => by simpa [State.readBuf] using h.buf a

@[simp] theorem State.respond_selectors (s : State) (v : Word32) : (s.respond v).selectors = s.selectors := by
  simp [State.selectors]

@[simp] theorem State.storeCache_selectors (s : State) (c : Cache) : (s.storeCache c).selectors = s.selectors := by
  simp [State.selectors]

@[simp] theorem State.begin_selectors (s : State) : s.begin.selectors = s.selectors := rfl

/-- Storing the cache between or after transactions changes the cache only. -/
theorem Ran.storeCache {s t : State} {xs : List Xfer} {rs : List ResultClass} (h : Ran s t xs rs) (c : Cache) :
    Ran { s with cache := some c } (t.storeCache c) xs rs where
  len := h.len
  trace := by simpa using h.trace
  seq := by simpa using h.seq
  idle := by simpa using h.idle
  replies := (State.storeCache_replies _ _).trans h.replies
  cfg := by simpa using h.cfg
  reqs := by simpa using h.reqs
  cache := by simp [State.storeCache_cache_of_idle _ _ h.idle]
  cstate := by simpa using h.cstate
  framelog := by simpa using h.framelog
  buf := by simpa using h.buf
  rsp := by simpa using h.rsp

/-- An error raised before any transaction, and the answer. -/
theorem State.raise_respond_answers {s : State} (hi : s.outstanding = none) (r : ResultClass) (v : Word32) :
    Emitted s ((s.begin.raise r).respond v) [] [] v ∧ ((s.begin.raise r).respond v).err = r.flag ∧
      Untouched s ((s.begin.raise r).respond v) ∧ ((s.begin.raise r).respond v).cache = s.cache ∧
      ((s.begin.raise r).respond v).selectors = s.selectors := by
  have ho : (s.begin.raise r).outstanding = none := by simpa using hi
  refine ⟨⟨rfl, ?_, ?_, ?_, ?_, ?_⟩, ?_, ⟨?_, ?_, ?_, ?_, fun a => ?_⟩, ?_, ?_⟩ <;>
    simp [eventsOf, State.respond_rsp_of_idle _ _ ho, hi, State.readBuf, State.selectors, Replies.afterAll]

/-! ### Selector images -/

/-- Words that lie in no selector space leave the three images alone. -/
theorem State.emit_selectors_of_others {s : State} {ws : List CmdWord} {rs : List ResultClass} (hi : s.outstanding = none)
    (ha : Answered s (sent ws) rs)
    (h : ∀ w ∈ ws, inSpace s.cfg.tselBase w = false ∧ inSpace s.cfg.aselBase w = false ∧
      inSpace s.cfg.auxaBase w = false) : (s.emit ws).selectors = s.selectors := by
  rw [State.emit_selectors ws s rs hi ha, imageAfter_of_others _ _ _ fun w hw => (h w hw).1,
    imageAfter_of_others _ _ _ fun w hw => (h w hw).2.1, imageAfter_of_others _ _ _ fun w hw => (h w hw).2.2]
  rfl

/-- No selector sees a word. -/
abbrev Unselecting (P : Params) (w : CmdWord) : Prop :=
  inSpace P.tselBase w = false ∧ inSpace P.aselBase w = false ∧ inSpace P.auxaBase w = false

/-- A word of a space other than the three selectors' is seen by none of them. -/
theorem unselecting_of_holds {P : Params} (h : P.Admissible) {g : Space} {w : CmdWord} (hw : g.holds P w = true)
    (h1 : g ≠ .tsel) (h2 : g ≠ .asel) (h3 : g ≠ .auxa) : Unselecting P w :=
  ⟨inSpace_of_other (g := .tsel) h rfl h1 hw, inSpace_of_other (g := .asel) h rfl h2 hw,
    inSpace_of_other (g := .auxa) h rfl h3 hw⟩

theorem unselecting_ctl {P : Params} (h : P.Admissible) (p : Byte) : Unselecting P (w8 P.ctlBase p) :=
  unselecting_of_holds h (w8_holds h .ctl p rfl) (by decide) (by decide) (by decide)

theorem unselecting_auxd {P : Params} (h : P.Admissible) (p : Byte) : Unselecting P (w8 P.auxdBase p) :=
  unselecting_of_holds h (w8_holds h .auxd p rfl) (by decide) (by decide) (by decide)

theorem unselecting_chan {P : Params} (h : P.Admissible) (c : Channel) (p : Byte) : Unselecting P (w8 (c.base P) p) := by
  cases c
  · exact unselecting_of_holds h (w8_holds h .av0 p rfl) (by decide) (by decide) (by decide)
  · exact unselecting_of_holds h (w8_holds h .av2 p rfl) (by decide) (by decide) (by decide)

theorem unselecting_value32 {P : Params} (h : P.Admissible) {g : Space} (hs : g.size = 0x400) (v : Word32) :
    ∀ w ∈ value32 (g.base P) v, Unselecting P w := by
  have h1 : g ≠ .tsel := by rintro rfl; exact absurd hs (by decide)
  have h2 : g ≠ .asel := by rintro rfl; exact absurd hs (by decide)
  have h3 : g ≠ .auxa := by rintro rfl; exact absurd hs (by decide)
  intro w hw
  simp only [value32, List.mem_cons, List.not_mem_nil, or_false] at hw
  rcases hw with rfl | rfl | rfl | rfl <;>
    exact unselecting_of_holds h (v32Word_holds h g _ v (by decide) hs) h1 h2 h3

theorem unselecting_w12 {P : Params} (h : P.Admissible) {g : Space} (hs : g.size = 0x1000) (p : BitVec 12) :
    Unselecting P (w12 (g.base P) p) := by
  have h1 : g ≠ .tsel := by rintro rfl; exact absurd hs (by decide)
  have h2 : g ≠ .asel := by rintro rfl; exact absurd hs (by decide)
  have h3 : g ≠ .auxa := by rintro rfl; exact absurd hs (by decide)
  exact unselecting_of_holds h (w12_holds h g p hs) h1 h2 h3

/-! ### Whole bodies -/

/-- What an operation has done when it has done `xs`, stored the cache `c'`, and answered: `Executes` without the name of the
operation, with the cache and the images. -/
theorem Ran.completed {s t : State} {c' : Cache} {xs : List Xfer} {rs : List ResultClass}
    (h : Ran s.begin t xs rs) (he : t.err = orFlags rs) (v : Word32) :
    Emitted s ((t.storeCache c').respond v) xs rs v ∧ ((t.storeCache c').respond v).err = orFlags rs ∧
      Untouched s ((t.storeCache c').respond v) ∧ ((t.storeCache c').respond v).cache = some c' ∧
      ((t.storeCache c').respond v).selectors = t.selectors := by
  have k : Ran (({ s with cache := some c' } : State)).begin (t.storeCache c') xs rs := h.storeCache c'
  refine ⟨?_, by simpa using he, ?_, by simpa using k.cache, by simp⟩
  · exact { k.respond v with }
  · have := k.untouched.respond v
    exact { this with }

/-- A list of words that the environment answers, sent from the start of an operation: one class for each, all in `err`. -/
theorem State.begin_emit_ran {s : State} {ws : List CmdWord} {rs : List ResultClass} (hi : s.outstanding = none)
    (ha : Answered s (sent ws) rs) :
    Ran s.begin (s.begin.emit ws) (sent ws) rs ∧ (s.begin.emit ws).err = orFlags rs := by
  obtain ⟨hr, he⟩ := State.emit_ran ws s.begin rs (by simpa using hi) ha
  exact ⟨hr, by simpa using he⟩

/-- The images after such a list. -/
theorem State.begin_emit_selectors {s : State} {ws : List CmdWord} {rs : List ResultClass} (hi : s.outstanding = none)
    (ha : Answered s (sent ws) rs) :
    (s.begin.emit ws).selectors = (imageAfter s.cfg.tselBase s.tsel ws, imageAfter s.cfg.aselBase s.asel ws,
      imageAfter s.cfg.auxaBase s.auxa ws) :=
  State.emit_selectors ws s.begin rs (by simpa using hi) ha

/-- The body of a register-layer write: words, then the answer. -/
theorem State.emit_respond_completed {s : State} {c : Cache} {ws : List CmdWord} {rs : List ResultClass}
    (h : Available s c) (ha : Answered s (sent ws) rs) (v : Word32) :
    Emitted s ((s.begin.emit ws).respond v) (sent ws) rs v ∧ ((s.begin.emit ws).respond v).err = orFlags rs ∧
      Untouched s ((s.begin.emit ws).respond v) ∧ ((s.begin.emit ws).respond v).cache = some c ∧
      ((s.begin.emit ws).respond v).selectors
        = (imageAfter s.cfg.tselBase s.tsel ws, imageAfter s.cfg.aselBase s.asel ws,
            imageAfter s.cfg.auxaBase s.auxa ws) := by
  obtain ⟨hr, he⟩ := State.begin_emit_ran h.1 ha
  refine ⟨hr.respond v, by simpa using he, hr.untouched.respond v, ?_, ?_⟩
  · rw [State.respond_cache, hr.cache]; simpa using h.2
  · rw [State.respond_selectors, State.begin_emit_selectors h.1 ha]

/-- The body of a setter without a settle: words, then the cache, then the answer. -/
theorem State.emit_store_respond_completed {s : State} {c : Cache} {ws : List CmdWord} {rs : List ResultClass}
    (h : Available s c) (ha : Answered s (sent ws) rs) (c' : Cache) (v : Word32) :
    Emitted s (((s.begin.emit ws).storeCache c').respond v) (sent ws) rs v ∧
      (((s.begin.emit ws).storeCache c').respond v).err = orFlags rs ∧
      Untouched s (((s.begin.emit ws).storeCache c').respond v) ∧
      (((s.begin.emit ws).storeCache c').respond v).cache = some c' ∧
      (((s.begin.emit ws).storeCache c').respond v).selectors
        = (imageAfter s.cfg.tselBase s.tsel ws, imageAfter s.cfg.aselBase s.asel ws,
            imageAfter s.cfg.auxaBase s.auxa ws) := by
  obtain ⟨hr, he⟩ := State.begin_emit_ran h.1 ha
  obtain ⟨h1, h2, h3, h4, h5⟩ := hr.completed (c' := c') he v
  exact ⟨h1, h2, h3, h4, by rw [h5, State.begin_emit_selectors h.1 ha]⟩

/-- An operation whose transactions stop in one that is never answered has not answered, and every guarded action after it
leaves the state as it is (60_exceptions R272). -/
theorem Stopped.unfinished {s t : State} {xs : List Xfer} {rs : List ResultClass} {x : Xfer}
    (h : Stopped s.begin t xs rs x) (c' : Cache) (v : Word32) :
    (t.storeCache c').respond v = t ∧ t.respond v = t ∧ t.rsp = none ∧ t.seq = xs.length ∧
      t.trace = s.trace ++ eventsOf xs rs ∧ t.cache = s.cache := by
  have hb := h.blocked
  refine ⟨by simp [hb], by simp [hb], h.rsp, ?_, h.trace, h.cache⟩
  rw [h.seq]; simp

/-- Words no selector sees leave the three images as they were. -/
theorem images_of_unselecting {s : State} {ws : List CmdWord} (h : ∀ w ∈ ws, Unselecting s.cfg w) :
    (imageAfter s.cfg.tselBase s.tsel ws, imageAfter s.cfg.aselBase s.asel ws, imageAfter s.cfg.auxaBase s.auxa ws)
      = s.selectors := by
  rw [imageAfter_of_others _ _ _ fun w hw => (h w hw).1, imageAfter_of_others _ _ _ fun w hw => (h w hw).2.1,
    imageAfter_of_others _ _ _ fun w hw => (h w hw).2.2]
  rfl

/-- In an idle state the body of ENCODE_AND_SEND sends its fourteen words where the environment answers them. -/
theorem State.encodeAndSend_ran {s : State} {flags : Cache} {rs : List ResultClass} (hi : s.outstanding = none)
    (h : s.replies.classes (sent (encodeWords s.cfg flags)) = some rs) :
    Ran s (s.encodeAndSend flags) (sent (encodeWords s.cfg flags)) rs ∧
      (s.encodeAndSend flags).err = s.err ||| orFlags rs :=
  State.emit_ran _ s rs hi h

/-- The words of ENCODE_AND_SEND touch no selector. -/
theorem unselecting_encodeWords {P : Params} (h : P.Admissible) (c : Cache) :
    ∀ w ∈ encodeWords P c, Unselecting P w := by
  have hk : ∀ k : Byte, Unselecting P (ctlCode P k) := fun k => unselecting_ctl h k
  have hv : ∀ w ∈ write32Words P (pack c), Unselecting P w := by
    intro w hw
    rcases List.mem_append.1 hw with hw | hw
    · rcases List.mem_cons.1 hw with rfl | hw
      · exact hk 6
      · rw [List.mem_singleton.1 hw]; exact hk 3
    · exact unselecting_value32 h (g := .w32) rfl (pack c) w hw
  intro w hw
  rcases List.mem_append.1 hw with hw | hw
  · rcases List.mem_append.1 hw with hw | hw <;> exact hv w hw
  · rcases List.mem_cons.1 hw with rfl | hw
    · exact hk _
    · rw [List.mem_singleton.1 hw]; exact hk _

end Sys2Proof.Machine
end

