-- ==== Sys2Proof/Laws/Captures.lean ====
section
/-! SUPPORT. What the capture operations' shared parts can do, said once: filling a region of the frame buffer, one frame,
and the loop over frames. -/

namespace Sys2Proof.Machine

open Sys2Proof.Config

/-- A bulk read of `n` bytes keeps at most `n`. -/
theorem receive_kept_length_le (n : Nat) (r : BulkReply) : (receive n r).kept.length ≤ n := by
  unfold Received.kept receive
  simp only
  split <;> simp

/-- Without a transport error every byte received is kept, up to the count asked for. -/
theorem receive_kept_of_ok {n : Nat} {r : BulkReply} (h : r.transport = .ok) : (receive n r).kept = r.bytes.take n := by
  unfold Received.kept
  rw [receive_result, h]
  unfold bulkClass
  by_cases h1 : min n r.bytes.length = n
  · simp only [if_pos h1]; rfl
  · by_cases h2 : 0 < min n r.bytes.length
    · simp only [if_neg h1, if_pos h2]; rfl
    · have : r.bytes = [] := List.length_eq_zero_iff.1 (by omega)
      simp only [if_neg h1, if_neg h2]
      rw [this, List.take_nil]

/-- `FRAME_BYTES` (00_scope R9). -/
theorem frameBytes_eq : Config.frameBytes = 163840 := rfl

/-- The bytes `fillRegion` writes are exactly the region's. -/
theorem State.fillRegion_length (s : State) (n : Nat) (r : BulkReply) :
    ((receive n r).kept ++ (s.drawBytes (n - (receive n r).kept.length)).1).length = n := by
  have := receive_kept_length_le n r
  simp [State.drawBytes]
  omega

/-- Filling a region: the kept bytes from its first address on, and nothing outside it. -/
theorem State.fillRegion_readBuf (s : State) (a n : Nat) (r : BulkReply) :
    (∀ (j : Nat) (b : Byte), (receive n r).kept[j]? = some b →
      (s.fillRegion a n (receive n r)).readBuf (a + j) = some b) ∧
    (∀ x, x < a ∨ a + n ≤ x → (s.fillRegion a n (receive n r)).readBuf x = s.readBuf x) := by
  have hl := s.fillRegion_length n r
  refine ⟨fun j b hb => ?_, fun x hx => ?_⟩
  · unfold State.readBuf
    rw [State.fillRegion_buf, Memory.read_write, hl]
    have hj : j < (receive n r).kept.length := by
      by_contra hc
      rw [List.getElem?_eq_none (by omega)] at hb
      cases hb
    have := receive_kept_length_le n r
    rw [if_pos (by omega), Nat.add_sub_cancel_left, List.getElem?_append_left hj, hb]
  · unfold State.readBuf
    rw [State.fillRegion_buf, Memory.read_write, hl, if_neg (by omega)]

/-- An answered frame of a capture: one bulk read, its class in the frame log, the bytes kept in the region; `err`, the cache
and the images are as they were. -/
theorem State.captureFrame_ran {s : State} {r : BulkReply} (a t : Nat) (hi : s.outstanding = none)
    (hr : s.replies.bulk 0 = some r) :
    Ran { s with framelog := (s.captureFrame a t).framelog, buf := (s.captureFrame a t).buf } (s.captureFrame a t)
        [.bulk Config.frameBytes t] [(receive Config.frameBytes r).result] ∧
      (s.captureFrame a t).framelog = s.framelog ++ [(receive Config.frameBytes r).result] ∧
      (s.captureFrame a t).err = s.err ∧ (s.captureFrame a t).selectors = s.selectors ∧
      (∀ (j : Nat) (b : Byte), (receive Config.frameBytes r).kept[j]? = some b →
        (s.captureFrame a t).readBuf (a + j) = some b) ∧
      (∀ x, x < a ∨ a + Config.frameBytes ≤ x → (s.captureFrame a t).readBuf x = s.readBuf x) := by
  obtain ⟨hr, he, hs, hv⟩ := State.bulkRead_ran Config.frameBytes t hi hr
  have hc : s.captureFrame a t = ((s.bulkRead Config.frameBytes t).1.logFrame (receive Config.frameBytes r).result).fillRegion
      a Config.frameBytes (receive Config.frameBytes r) := by
    unfold State.captureFrame
    simp only [hv]
  rw [hc]
  obtain ⟨h1, h2⟩ := ((s.bulkRead Config.frameBytes t).1.logFrame (receive Config.frameBytes r).result).fillRegion_readBuf
    a Config.frameBytes r
  refine ⟨?_, ?_, he, hs, h1, fun x hx => ?_⟩
  · exact { hr with framelog := rfl, buf := rfl }
  · rw [State.fillRegion_framelog, State.logFrame_framelog, hr.framelog]
  · rw [h2 x hx]
    unfold State.readBuf
    rw [State.logFrame_buf, hr.buf]

/-- A frame that is never answered stops in its bulk read; its region is as it was (notes/assumptions/22). -/
theorem State.captureFrame_stopped {s : State} (a t : Nat) (hi : s.outstanding = none) (hr : s.replies.bulk 0 = none) :
    Stopped s (s.captureFrame a t) [] [] (.bulk Config.frameBytes t) ∧ (s.captureFrame a t).err = s.err ∧
      (s.captureFrame a t).selectors = s.selectors := by
  obtain ⟨h1, h2, h3, hv⟩ := State.bulkRead_stopped Config.frameBytes t hi hr
  have hc : s.captureFrame a t = (s.bulkRead Config.frameBytes t).1 := by
    unfold State.captureFrame; simp only [hv]
  rw [hc]
  exact ⟨h1, h2, h3⟩

@[simp] theorem State.captureFrame_of_blocked {s : State} (h : s.blocked = true) (a t : Nat) : s.captureFrame a t = s := by
  simp [State.captureFrame, h]

@[simp] theorem State.captureLoop_of_blocked {s : State} (h : s.blocked = true) (t n : Nat) :
    ∀ a, s.captureLoop t n a = s := by
  induction n with
  | zero => intro a; rfl
  | succ n ih => intro a; simp [State.captureLoop, h, ih]

/-- The loop over frames, the first `n` and then the others. -/
theorem State.captureLoop_add (t n m : Nat) : ∀ (s : State) (a : Nat),
    s.captureLoop t (n + m) a = (s.captureLoop t n a).captureLoop t m (a + n * Config.frameBytes) := by
  induction n with
  | zero => intro s a; simp [State.captureLoop]
  | succ n ih =>
    intro s a
    rw [Nat.succ_add_eq_add_succ, Nat.add_succ] at *
    show (s.captureFrame a t).captureLoop t (n + m) (a + Config.frameBytes) = _
    rw [ih, Nat.succ_mul, Nat.add_assoc, Nat.add_comm Config.frameBytes]
    rfl

/-- The answers to `n` bulk reads in a row, read by read. -/
theorem Replies.classes_replicate (m t : Nat) (n : Nat) : ∀ (r : Replies) (rs : List ResultClass),
    r.classes (List.replicate n (.bulk m t)) = some rs → ∀ i, i < n →
      ∃ q, r.bulk i = some q ∧ rs[i]? = some (receive m q).result := by
  induction n with
  | zero => intro r rs _ i hi; omega
  | succ n ih =>
    intro r rs h i hi
    simp only [List.replicate_succ, Replies.classes, Replies.classOf, Option.bind_eq_some_iff,
      Option.map_eq_some_iff] at h
    obtain ⟨p, ⟨q, hq, rfl⟩, ps, hp, rfl⟩ := h
    cases i with
    | zero => exact ⟨q, hq, by rw [receive_result]; rfl⟩
    | succ i =>
      obtain ⟨q', hq', he⟩ := ih (r.after (.bulk m t)) ps hp i (by omega)
      exact ⟨q', hq', by simpa using he⟩

/-- The loop over `n` frames from address `a`, each answered: `n` bulk reads, their classes in the frame log, each frame's
kept bytes in its own region, and nothing outside the `n` regions. -/
theorem State.captureLoop_ran (t : Nat) (n : Nat) : ∀ (s : State) (a : Nat) (rs : List ResultClass),
    s.outstanding = none → s.replies.classes (List.replicate n (.bulk Config.frameBytes t)) = some rs →
      Ran { s with framelog := (s.captureLoop t n a).framelog, buf := (s.captureLoop t n a).buf } (s.captureLoop t n a)
        (List.replicate n (.bulk Config.frameBytes t)) rs ∧
      (s.captureLoop t n a).framelog = s.framelog ++ rs ∧
      (s.captureLoop t n a).err = s.err ∧ (s.captureLoop t n a).selectors = s.selectors ∧
      (∀ (i : Nat) (r : BulkReply), i < n → s.replies.bulk i = some r →
        ∀ (j : Nat) (b : Byte), (receive Config.frameBytes r).kept[j]? = some b →
          (s.captureLoop t n a).readBuf (a + i * Config.frameBytes + j) = some b) ∧
      (∀ x, x < a ∨ a + n * Config.frameBytes ≤ x → (s.captureLoop t n a).readBuf x = s.readBuf x) := by
  induction n with
  | zero =>
    intro s a rs hi h
    cases h
    exact ⟨Ran.refl s hi, by simp [State.captureLoop], rfl, rfl, fun i r h => absurd h (by omega), fun x _ => rfl⟩
  | succ n ih =>
    intro s a rs hi h
    simp only [List.replicate_succ, Replies.classes, Replies.classOf, Option.bind_eq_some_iff,
      Option.map_eq_some_iff] at h
    obtain ⟨p, ⟨r, hq, rfl⟩, ps, hp, rfl⟩ := h
    rw [← receive_result]
    obtain ⟨hr, hf, he, hs, hk, ho⟩ := State.captureFrame_ran a t hi hq
    obtain ⟨kr, kf, ke, ks, kk, ko⟩ := ih (s.captureFrame a t) (a + Config.frameBytes) ps hr.idle
      (by rw [hr.replies]; exact hp)
    have hl : s.captureLoop t (n + 1) a = (s.captureFrame a t).captureLoop t n (a + Config.frameBytes) := rfl
    have hrep : (s.captureFrame a t).replies = s.replies.after (.bulk Config.frameBytes t) := hr.replies
    rw [hl]
    generalize hu : (s.captureFrame a t).captureLoop t n (a + Config.frameBytes) = u at *
    refine ⟨?_, ?_, ke.trans he, ks.trans hs, ?_, ?_⟩
    · have h1 : Ran { s with framelog := u.framelog, buf := u.buf }
          { s.captureFrame a t with framelog := u.framelog, buf := u.buf } [.bulk Config.frameBytes t]
          [(receive Config.frameBytes r).result] := { hr with framelog := rfl, buf := rfl }
      exact h1.trans kr
    · rw [kf, hf]; simp
    · intro i q hi' hb j b hj
      cases i with
      | zero =>
        rw [hq] at hb; cases hb
        have hj' : j < Config.frameBytes := by
          have h1 := receive_kept_length_le Config.frameBytes r
          by_contra hc
          rw [List.getElem?_eq_none (by omega)] at hj
          cases hj
        rw [Nat.zero_mul, Nat.add_zero, ko _ (by omega)]
        exact hk j b hj
      | succ i =>
        have := kk i q (by omega) (by rw [hrep]; exact hb) j b hj
        rwa [show a + (i + 1) * Config.frameBytes + j = a + Config.frameBytes + i * Config.frameBytes + j by
          rw [Nat.add_mul]; omega]
    · intro x hx
      rw [ko x (by rw [Nat.add_mul] at hx; omega)]
      exact ho x (by rw [Nat.add_mul] at hx; omega)

end Sys2Proof.Machine
end

