-- ==== Sys2Proof/Laws/PerInstr.lean ====
section
/-! SUPPORT. A fact about every operation as syntax: its word fits its row of spec/opcode_table.json (the row's `mask` and
`match`). One lemma per constructor of Instr. -/

namespace Sys2Proof.Laws.TableRow

/-- The `mask` of a format's rows in spec/opcode_table.json: the bits the format does not name. -/
def mask : Format → ReqWord
  | .N => 0xFFFFFFFFFFFFFFFFFFFF
  | .B => 0xFF00FFFFFFFFFFFFFFFE
  | .H => 0xFF00FFFFFFFFFFFF0000
  | .W => 0xFF00FFFFFFFF00000000
  | .I => 0xFF00FFFFFFFFFFFFFFFF
  | .V1 => 0xFFFFFFFFFFFFFFFFFFFE
  | .V16 => 0xFFFFFFFFFFFFFFFF0000
  | .V32 => 0xFFFFFFFFFFFF00000000
  | .S32 => 0xFFFFFFFFFFFF00000000
  | .G => 0xFFFF0000000000000000
  | .C => 0xFFFF0000000000000000

/-- The masked word of an operation is its row's `match`: its opcode in bits 79:72 and nothing else. -/
def Statement (i : Instr) : Prop := encode i &&& mask i.format = i.opcode ++ 0#72

theorem mask_bits (f : Format) : ∀ k, k < 80 → (mask f).getLsbD k
    = (decide (72 ≤ k) || (decide (64 ≤ k) && f.idReserved) || (decide (k < 64) && decide (f.argBits ≤ k))) := by
  cases f <;> decide

/-- An operation whose reserved fields are zero fits its row. -/
theorem of_reserved (i : Instr) (hid : i.format.idReserved = true → i.idField = 0)
    (harg : ∀ k, i.format.argBits ≤ k → i.argField.getLsbD k = false) : Statement i := by
  unfold Statement encode
  apply BitVec.eq_of_getLsbD_eq
  intro k hk
  rw [BitVec.getLsbD_and, mask_bits _ _ hk, BitVec.getLsbD_append, BitVec.getLsbD_append, BitVec.getLsbD_append]
  by_cases h64 : k < 64
  · have : k < 72 := by omega
    by_cases hb : i.format.argBits ≤ k
    · have h0 := harg k hb
      simp only [h64, this, decide_true, if_true, h0, Bool.false_and, BitVec.getLsbD_zero]
    · simp [h64, this, hb, show ¬ 64 ≤ k by omega, show ¬ 72 ≤ k by omega]
  · by_cases h72 : k < 72
    · cases hr : i.format.idReserved
      · simp [h64, h72, show ¬ 72 ≤ k by omega]
      · have h8 : k - 64 < 8 := by omega
        simp [h64, h72, h8, hid hr]
    · simp [h64, h72, show 72 ≤ k by omega, show ¬ (k - 64 < 8) by omega, Nat.sub_sub]

theorem setWidth_high (n : Nat) (v : BitVec n) (k : Nat) (h : n ≤ k) : (v.setWidth 64).getLsbD k = false := by
  rw [BitVec.getLsbD_setWidth]
  simp [BitVec.getLsbD_of_ge v k h]

theorem width_64 (v : BitVec 64) (k : Nat) (h : 64 ≤ k) : v.getLsbD k = false := BitVec.getLsbD_of_ge v k h

theorem writeBit (id : Byte) (d : Bool) : Statement (.writeBit id d) := of_reserved _ (nofun) (fun k h => setWidth_high _ _ k h)
theorem write16 (id : Byte) (value : Half) : Statement (.write16 id value) := of_reserved _ (nofun) (fun k h => setWidth_high _ _ k h)
theorem write32 (id : Byte) (value : Word32) : Statement (.write32 id value) := of_reserved _ (nofun) (fun k h => setWidth_high _ _ k h)
theorem read16 (id : Byte) : Statement (.read16 id) := of_reserved _ (nofun) (fun _ _ => BitVec.getLsbD_zero)
theorem encodeAndSend : Statement (.encodeAndSend) := of_reserved _ (fun _ => rfl) (fun _ _ => BitVec.getLsbD_zero)
theorem setFrameRate (hz : Nat) : Statement (.setFrameRate hz) := of_reserved _ (fun _ => rfl) (fun k h => setWidth_high _ _ k h)
theorem setCaptureMode : Statement (.setCaptureMode) := of_reserved _ (fun _ => rfl) (fun _ _ => BitVec.getLsbD_zero)
theorem setWoi (xs ys xe ye : Half) : Statement (.setWoi xs ys xe ye) := of_reserved _ (fun _ => rfl) (fun k h => width_64 _ k h)
theorem setItimeInternal (ms : Nat) : Statement (.setItimeInternal ms) := of_reserved _ (fun _ => rfl) (fun k h => setWidth_high _ _ k h)
theorem setItime (ms : Nat) : Statement (.setItime ms) := of_reserved _ (fun _ => rfl) (fun k h => setWidth_high _ _ k h)
theorem captureFrames (buf totalPixels : Nat) : Statement (.captureFrames buf totalPixels) := of_reserved _ (fun _ => rfl) (fun k h => width_64 _ k h)
theorem captureData (buf length : Nat) : Statement (.captureData buf length) := of_reserved _ (fun _ => rfl) (fun k h => width_64 _ k h)
theorem setGain (v : Bool) : Statement (.setGain v) := of_reserved _ (fun _ => rfl) (fun k h => setWidth_high _ _ k h)
theorem setXinv (v : Bool) : Statement (.setXinv v) := of_reserved _ (fun _ => rfl) (fun k h => setWidth_high _ _ k h)
theorem setYinv (v : Bool) : Statement (.setYinv v) := of_reserved _ (fun _ => rfl) (fun k h => setWidth_high _ _ k h)
theorem setLinerepeat (v : Bool) : Statement (.setLinerepeat v) := of_reserved _ (fun _ => rfl) (fun k h => setWidth_high _ _ k h)
theorem setRefout (v : Bool) : Statement (.setRefout v) := of_reserved _ (fun _ => rfl) (fun k h => setWidth_high _ _ k h)
theorem setReset (v : Bool) : Statement (.setReset v) := of_reserved _ (fun _ => rfl) (fun k h => setWidth_high _ _ k h)
theorem setSkim (v : Bool) : Statement (.setSkim v) := of_reserved _ (fun _ => rfl) (fun k h => setWidth_high _ _ k h)
theorem setPower (v : Word32) : Statement (.setPower v) := of_reserved _ (fun _ => rfl) (fun k h => setWidth_high _ _ k h)
theorem setCurrent (v : Word32) : Statement (.setCurrent v) := of_reserved _ (fun _ => rfl) (fun k h => setWidth_high _ _ k h)
theorem setBias (v : Word32) : Statement (.setBias v) := of_reserved _ (fun _ => rfl) (fun k h => setWidth_high _ _ k h)
theorem setBandwidth (v : Word32) : Statement (.setBandwidth v) := of_reserved _ (fun _ => rfl) (fun k h => setWidth_high _ _ k h)
theorem setOutputfactor (v : Word32) : Statement (.setOutputfactor v) := of_reserved _ (fun _ => rfl) (fun k h => setWidth_high _ _ k h)
theorem setItr (v : Bool) : Statement (.setItr v) := of_reserved _ (fun _ => rfl) (fun k h => setWidth_high _ _ k h)
theorem setMultiplereadouts (v : Bool) : Statement (.setMultiplereadouts v) := of_reserved _ (fun _ => rfl) (fun k h => setWidth_high _ _ k h)
theorem setNondestructive (v : Bool) : Statement (.setNondestructive v) := of_reserved _ (fun _ => rfl) (fun k h => setWidth_high _ _ k h)
theorem setPwm (v : Int) : Statement (.setPwm v) := of_reserved _ (fun _ => rfl) (fun k h => setWidth_high _ _ k h)
theorem setCooling (v : Bool) : Statement (.setCooling v) := of_reserved _ (fun _ => rfl) (fun k h => setWidth_high _ _ k h)
theorem setImageInvert (v : Bool) : Statement (.setImageInvert v) := of_reserved _ (fun _ => rfl) (fun k h => setWidth_high _ _ k h)
theorem setAnalog (id : Byte) (value : Half) : Statement (.setAnalog id value) := of_reserved _ (nofun) (fun k h => setWidth_high _ _ k h)
theorem get (i : Byte) : Statement (.get i) := of_reserved _ (nofun) (fun _ _ => BitVec.getLsbD_zero)
theorem getTemperatureAdu : Statement (.getTemperatureAdu) := of_reserved _ (fun _ => rfl) (fun _ _ => BitVec.getLsbD_zero)
theorem getTemperatureAdcType : Statement (.getTemperatureAdcType) := of_reserved _ (fun _ => rfl) (fun _ _ => BitVec.getLsbD_zero)
theorem openDevice : Statement (.openDevice) := of_reserved _ (fun _ => rfl) (fun _ _ => BitVec.getLsbD_zero)
theorem closeDevice : Statement (.closeDevice) := of_reserved _ (fun _ => rfl) (fun _ _ => BitVec.getLsbD_zero)

end Sys2Proof.Laws.TableRow
end

