-- ==== Sys2Proof/Tests/Slice0.lean ====
section
/-! SUPPORT. The model's own tests. Expected words, responses and values are those of 95_test_vectors.md (the vector's name
stands beside each), computed by the spec's own transcription, not by this model. The witnesses at the end show, for every
statement that has hypotheses, a concrete state and operands that meet them. -/

namespace Sys2Proof.Tests

open Sys2Proof Sys2Proof.Machine Sys2Proof.Config

/-! ## Well-formedness: an ill-formed term for each check, and the last value that fits -/

theorem test_wellformed_rate : (Instr.setFrameRate 65536).WellFormed = false ∧
    (Instr.setFrameRate 65535).WellFormed = true := by decide
theorem test_wellformed_itime_internal : (Instr.setItimeInternal (2 ^ 32)).WellFormed = false ∧
    (Instr.setItimeInternal (2 ^ 32 - 1)).WellFormed = true := by decide
theorem test_wellformed_itime : (Instr.setItime (2 ^ 32)).WellFormed = false ∧
    (Instr.setItime (2 ^ 32 - 1)).WellFormed = true := by decide
theorem test_wellformed_frames : (Instr.captureFrames (2 ^ 32) 0).WellFormed = false ∧
    (Instr.captureFrames 0 (2 ^ 32)).WellFormed = false ∧
    (Instr.captureFrames (2 ^ 32 - 1) (2 ^ 32 - 1)).WellFormed = true := by decide
theorem test_wellformed_data : (Instr.captureData (2 ^ 32) 0).WellFormed = false ∧
    (Instr.captureData 0 (2 ^ 32)).WellFormed = false ∧
    (Instr.captureData (2 ^ 32 - 1) (2 ^ 32 - 1)).WellFormed = true := by decide
theorem test_wellformed_pwm : (Instr.setPwm (2 ^ 31)).WellFormed = false ∧
    (Instr.setPwm (-2 ^ 31 - 1)).WellFormed = false ∧
    (Instr.setPwm (2 ^ 31 - 1)).WellFormed = true ∧ (Instr.setPwm (-2 ^ 31)).WellFormed = true := by decide

/-! ## Decoding: a request word for every operation, written out from R91, R92 and R96 -/

/-- V41-20, V41-4, V41-25, V41-29. -/
theorem test_decode_registers :
    decode 0x01010000000000000001 = .ok (.writeBit 0x01 true) ∧
    decode 0x02130000000000000064 = .ok (.write16 0x13 100) ∧
    decode 0x035000000000800000C0 = .ok (.write32 0x50 0x800000C0) ∧
    decode 0x04400000000000000000 = .ok (.read16 0x40) := by decide

/-- `ENCODE_AND_SEND`, `SET_FRAME_RATE 350`. -/
theorem test_decode_encoder_and_rate :
    decode 0x10000000000000000000 = .ok .encodeAndSend ∧
    decode 0x1800000000000000015E = .ok (.setFrameRate 350) := by decide

/-- `SET_CAPTURE_MODE`, V44-1, `SET_ITIME_INTERNAL 10`, P4 line 18, V30-3, P4 line 21. -/
theorem test_decode_capture :
    decode 0x20000000000000000000 = .ok .setCaptureMode ∧
    decode 0x210000000000013F00FF = .ok (.setWoi 0 0 319 255) ∧
    decode 0x2100000100020003FFFF = .ok (.setWoi 1 2 3 0xFFFF) ∧
    decode 0x2200000000000000000A = .ok (.setItimeInternal 10) ∧
    decode 0x2300000000000001A36F = .ok (.setItime 107375) ∧
    decode 0x24000000100000028000 = .ok (.captureFrames 0x1000 163840) ∧
    decode 0x25000000001000000000 = .ok (.captureData 0x10 0) := by decide

/-- The fifteen flag setters with operand 1, or 5 where it is 32 bits wide. -/
theorem test_decode_flags :
    decode 0x30000000000000000001 = .ok (.setGain true) ∧ decode 0x31000000000000000001 = .ok (.setXinv true) ∧
    decode 0x32000000000000000001 = .ok (.setYinv true) ∧ decode 0x33000000000000000001 = .ok (.setLinerepeat true) ∧
    decode 0x34000000000000000001 = .ok (.setRefout true) ∧ decode 0x35000000000000000001 = .ok (.setReset true) ∧
    decode 0x36000000000000000001 = .ok (.setSkim true) ∧ decode 0x37000000000000000005 = .ok (.setPower 5) ∧
    decode 0x38000000000000000005 = .ok (.setCurrent 5) ∧ decode 0x39000000000000000005 = .ok (.setBias 5) ∧
    decode 0x3A000000000000000005 = .ok (.setBandwidth 5) ∧
    decode 0x3B0000000000FFFFFFFF = .ok (.setOutputfactor 0xFFFFFFFF) ∧
    decode 0x3C000000000000000001 = .ok (.setItr true) ∧
    decode 0x3D000000000000000001 = .ok (.setMultiplereadouts true) ∧
    decode 0x3E000000000000000001 = .ok (.setNondestructive true) := by decide

/-- V30-4, P3 lines 2 and 8, P4 line 9, the temperature getters, `OPEN`, `CLOSE`. -/
theorem test_decode_cache :
    decode 0x400000000000FFFFFFF6 = .ok (.setPwm (-10)) ∧ decode 0x41000000000000000001 = .ok (.setCooling true) ∧
    decode 0x42000000000000000001 = .ok (.setImageInvert true) ∧
    decode 0x44200000000000000102 = .ok (.setAnalog 0x20 0x0102) ∧ decode 0x48240000000000000000 = .ok (.get 36) ∧
    decode 0x49000000000000000000 = .ok .getTemperatureAdu ∧
    decode 0x4A000000000000000000 = .ok .getTemperatureAdcType ∧
    decode 0x7E000000000000000000 = .ok .openDevice ∧ decode 0x7F000000000000000000 = .ok .closeDevice := by decide

/-- V30-5 to V30-9, and the numbering of the opcode table. -/
theorem test_decode_rejects :
    decode 0x30000000000000000002 = .error .reservedBit ∧ decode 0x05000000000000000000 = .error .unassignedOpcode ∧
    decode 0x20010000000000000000 = .error .reservedBit ∧ decode 0x00000000000000000000 = .error .unassignedOpcode ∧
    decode 0x02130000000000010064 = .error .reservedBit ∧
    decodeTableWord 80 0x02130000000000000064 = some (.write16 0x13 100) ∧
    decodeTableWord 80 0x30000000000000000002 = none := by decide

/-! ## Execution: the vectors of 95_test_vectors.md -/

/-- A status response with `s[8] = 0x34` and `s[9] = 0x12` (V41-29). -/
def status34 : StatusReply where
  transport := .ok
  bytes := ((Vector.replicate 64 0).set 8 0x34).set 9 0x12

/-- A command port that answers `Ok`, one status response, three bulk reads that time out. -/
def answers : Env where
  cmd := List.replicate 16 (some .ok)
  status := [some status34]
  bulk := List.replicate 3 (some { transport := .timeout, bytes := [] })
  opens := [.ok]

/-- Start state S0 of 95_test_vectors.md with that environment. -/
def s0 : State := { State.reset with env := answers }

/-- The state an operation leaves, if it answers a next state. -/
def after (i : Instr) (s : State) : Option State :=
  match exec i s with
  | .next t => some t
  | .fault _ => none
  | .refused _ => none

/-- The reason an operation or a step is refused for. -/
def refusal (o : Host.Outcome State Fault Refusal) : Option Refusal :=
  match o with
  | .next _ => none
  | .fault _ => none
  | .refused r => some r

/-- The state a step leaves, if it answers a next state. -/
def afterStep (s : State) : Option State :=
  match step s with
  | .next t => some t
  | .fault _ => none
  | .refused _ => none

/-- The transactions emitted since S0 and the response. -/
def emits (i : Instr) (s : State) : Option (List Xfer × Option Response) :=
  (after i s).map fun t => (t.trace.map Event.xfer, t.rsp)

/-- Command words, then `(err, value)`. -/
def words (ws : List CmdWord) (err : Byte) (v : Word32) : Option (List Xfer × Option Response) :=
  some (sent ws, some { err := err, value := v })

/-- The fourteen words of a packed word given by its most and least significant bytes, a settle, and the answer `Timeout` the
settle of `s0` gets. -/
def settled (b3 b2 b0 : Byte) : Option (List Xfer × Option Response) :=
  let w := [0x1006, 0x1003, 0x3300 ||| b3.setWidth 16, 0x3200 ||| b2.setWidth 16, 0x3100, 0x3000 ||| b0.setWidth 16]
  some (sent (w ++ w ++ [0x100E, 0x101E]) ++ [.bulk 163840 10020], some { err := 0x01, value := 0 })

/-- V41-20, V41-24. -/
theorem test_write_bit : emits (.writeBit 0x01 true) s0 = words [0x1005] 0 0 ∧
    emits (.writeBit 0x04 true) s0 = words [] 0x08 0 := by decide
/-- V41-1, V41-4. -/
theorem test_write16_bank : emits (.write16 0x10 0x1234) s0 = words [0x1006, 0x2034, 0x2012, 0x1006, 0x1003] 0 0 ∧
    emits (.write16 0x13 100) s0 = words [0x1003, 0x2264, 0x2200, 0x1006, 0x1003] 0 0 := by decide
/-- V41-7, V41-8, V41-12, V41-15. -/
theorem test_write16_selectors : emits (.write16 0x21 0x0102) s0 = words [0x2500, 0x2202, 0x2201] 0 0 ∧
    emits (.write16 0x22 0x0102) s0 = words [0x2501, 0x2002, 0x2001, 0x25FF] 0 0 ∧
    emits (.write16 0x32 0x0FFF) s0 = words [0x2401, 0x20FF, 0x200F, 0x24FF] 0 0 ∧
    emits (.write16 0x50 1) s0 = words [] 0x08 0 := by decide
/-- V41-27, V41-28. -/
theorem test_write32 :
    emits (.write32 0x50 0x12345678) s0 = words [0x1006, 0x1003, 0x3312, 0x3234, 0x3156, 0x3078] 0 0 ∧
    emits (.write32 0x10 1) s0 = words [] 0x08 0 := by decide
/-- V41-30, V41-31, V41-32. -/
theorem test_read16 : emits (.read16 0x41) s0
      = some (sent [0x11FF, 0x1102] ++ [.status] ++ sent [0x11FF, 0x1200], some { err := 0, value := 0x1234 }) ∧
    emits (.read16 0x13) s0 = words [] 0x10 0 ∧ emits (.read16 0x60) s0 = words [] 0x08 0 := by decide
/-- A failed status read (R131, R160): value 0, the closing words still sent. -/
theorem test_read16_failed : emits (.read16 0x40)
      { s0 with env := { answers with status := [some { status34 with transport := .error }] } }
      = some (sent [0x11FF, 0x1101] ++ [.status] ++ sent [0x11FF, 0x1200], some { err := 0x20, value := 0 }) := by decide
/-- V42-19. -/
theorem test_encode_and_send : emits .encodeAndSend s0 = words [0x1006, 0x1003, 0x3380, 0x3200, 0x3100, 0x30C0, 0x1006,
    0x1003, 0x3380, 0x3200, 0x3100, 0x30C0, 0x100E, 0x101E] 0 0 := by decide
/-- V42-21: the same request over another cache has another trace. -/
theorem test_encode_and_send_reads_the_cache :
    emits .encodeAndSend { s0 with cache := some { Cache.ofDefaults refDefaults with xinv := true, yinv := true } }
      = words [0x1006, 0x1003, 0x3380, 0x3200, 0x3100, 0x3000, 0x1006, 0x1003, 0x3380, 0x3200, 0x3100, 0x3000, 0x100E,
        0x101E] 0 0 := by decide
/-- V42-17, V42-18. -/
theorem test_pack :
    pack { Cache.ofDefaults refDefaults with
      gain := true, power := 2, current := 3, bias := 4, bandwidth := 1, outputfactor := 2, xinv := true }
      = 0x99C40050 ∧
    pack { Cache.ofDefaults refDefaults with
      gain := true, linerepeat := true, refout := true, reset := true, skim := true, itr := true
      multiplereadouts := true, nondestructive := true
      power := 3, current := 7, bias := 7, bandwidth := 3, outputfactor := 4 } = 0xBFFF00FF := by decide
/-- V43-1, and the tie of R183. -/
theorem test_set_frame_rate :
    emits (.setFrameRate 350) s0 = words [0x1110, 0x120B, 0x11FF, 0x1111, 0x1229, 0x11FF, 0x100D] 0 0 ∧
    frameDelay 128 = 7813 ∧ frameDelay 15 = 65535 ∧ frameDelay 16 = 62500 := by decide +kernel
/-- P5 lines 2 to 4: the window (0, 0, 399, 255) at 350 and at 336 Hz. -/
theorem test_set_frame_rate_wide :
    emits (.setFrameRate 350) { s0 with cache := some { Cache.ofDefaults refDefaults with woiXe := 399 } }
      = words [0x100C] 0 0 ∧
    emits (.setFrameRate 336) { s0 with cache := some { Cache.ofDefaults refDefaults with woiXe := 399 } }
      = words [0x1110, 0x120B, 0x11FF, 0x1111, 0x12A0, 0x11FF, 0x100D] 0 0 := by decide +kernel
/-- R195. -/
theorem test_set_capture_mode : emits .setCaptureMode s0 = words [0x1005, 0x1008] 0 0 ∧
    (after .setCaptureMode s0).map (fun t => t.cstate) = some .configured := by decide
/-- The second example of R191. -/
theorem test_set_woi :
    emits (.setWoi 10 20 0x1234 0xFFFF) s0 = words [0x800A, 0x9014, 0xA234, 0xBFFF, 0xC001, 0xD001] 0 0 ∧
    (after (.setWoi 10 20 0x1234 0xFFFF) s0).map (fun t => t.cache.map fun c => (c.woiXe, c.woiYe))
      = some (some (0x234, 0xFFF)) := by decide
/-- The example of R192. -/
theorem test_set_itime_internal : emits (.setItimeInternal 10) s0 = words [0x3700, 0x3606, 0x351A, 0x3480] 0 0 := by decide
/-- The example of R194: the settle uses the new timeout. -/
theorem test_set_itime : emits (.setItime 100) s0
      = some (sent [0x3700, 0x363D, 0x3509, 0x3400] ++ [.bulk 163840 10200], some { err := 0x01, value := 0 }) := by decide
/-- One frame that times out, the remainder of the pixel count dropped: the response is `Ok` and the class is in the frame log
(R196, R273). -/
theorem test_capture_frames : (after (.captureFrames 0 163839) s0).map (fun t => (t.trace.map Event.xfer, t.rsp, t.framelog))
      = some ([.bulk 163840 10020], some { err := 0, value := 0 }, [.timeout]) := by decide
/-- An underrun of `CAPTURE_DATA` (R133, R197): two bytes of three, reported and stored. -/
theorem test_capture_data : (after (.captureData 0x10 3)
      { s0 with env := { answers with bulk := [some { transport := .ok, bytes := [0xAA, 0xBB] }] } }).map
      (fun t => (t.rsp, t.readBuf 0x10, t.readBuf 0x11, t.readBuf 0x13))
      = some (some { err := 0x02, value := 2 }, some 0xAA, some 0xBB, none) := by decide
/-- The four counts a read of three bytes can return (R133, R260, R197): none, one, two, three. -/
theorem test_capture_data_counts :
    ([[], [0xAA], [0xAA, 0xBB], [0xAA, 0xBB, 0xCC]] : List (List Byte)).map (fun bs => (after (.captureData 0x10 3)
      { s0 with env := { answers with bulk := [some { transport := .ok, bytes := bs }] } }).map (fun t => t.rsp))
      = [some (some { err := 0x20, value := 0 }), some (some { err := 0x02, value := 1 }),
        some (some { err := 0x02, value := 2 }), some (some { err := 0x00, value := 3 })] := by decide
/-- R200 to R206: the packed bytes, and the settle's class in the response. -/
theorem test_flags_low : emits (.setGain true) s0 = settled 0x90 0x00 0xC0 ∧
    emits (.setXinv true) s0 = settled 0x80 0x00 0x40 ∧ emits (.setYinv true) s0 = settled 0x80 0x00 0x80 ∧
    emits (.setLinerepeat true) s0 = settled 0x80 0x00 0xE0 ∧ emits (.setRefout true) s0 = settled 0x80 0x00 0xC4 ∧
    emits (.setReset true) s0 = settled 0x80 0x00 0xC2 ∧ emits (.setSkim true) s0 = settled 0x80 0x00 0xC1 := by decide
/-- R207 to R210. -/
theorem test_flags_levels : emits (.setPower 5) s0 = settled 0x84 0x00 0xC0 ∧
    emits (.setCurrent 7) s0 = settled 0x83 0x80 0xC0 ∧ emits (.setBias 5) s0 = settled 0x80 0x50 0xC0 ∧
    emits (.setBandwidth 2) s0 = settled 0x80 0x08 0xC0 := by decide
/-- R211 to R214. -/
theorem test_flags_high : emits (.setOutputfactor 4) s0 = settled 0x80 0x00 0xD8 ∧
    emits (.setItr true) s0 = settled 0xA0 0x00 0xC0 ∧ emits (.setMultiplereadouts true) s0 = settled 0x80 0x02 0xC0 ∧
    emits (.setNondestructive true) s0 = settled 0x80 0x01 0xC0 := by decide
/-- The last sentence of R24: levels are cached unmasked. -/
theorem test_level_cached : (after (.setPower 5) s0).map (fun t => t.cache.map Cache.power) = some (some 5) := by decide
/-- V45-1, V45-2: the clamp. -/
theorem test_set_pwm : emits (.setPwm (-10)) s0 = words [0x1003, 0x2200, 0x2200, 0x1006, 0x1003] 0 0 ∧
    emits (.setPwm 5000) s0 = words [0x1003, 0x22FF, 0x220F, 0x1006, 0x1003] 0 0 := by decide
/-- The examples of R231 and R232. -/
theorem test_set_cooling_invert : emits (.setCooling true) s0 = words [0x1001] 0 0 ∧
    emits (.setImageInvert true) s0 = words [0x100B] 0 0 := by decide
/-- The example of R233, and P3 line 2 with its selector image. -/
theorem test_set_analog : emits (.setAnalog 0x12 0xABCD) s0 = words [0x1003, 0x20CD, 0x20AB, 0x1006, 0x1003] 0 0 ∧
    (after (.setAnalog 0x20 0x0102) s0).map (fun t => (t.selectors, t.cache.map Cache.pidP))
      = some ((0x00, 0xFF, 0xFF), some 0x0102) := by decide
/-- V30-10 and the reset value of `c[11]`. -/
theorem test_get : emits (.get 11) s0 = words [] 0 1 ∧ emits (.get 35) s0 = words [] 0x08 0 := by decide
/-- P3 line 6. -/
theorem test_temperature : emits .getTemperatureAdu s0
      = some (sent [0x11FF, 0x1101] ++ [.status] ++ sent [0x11FF, 0x1200], some { err := 0, value := 0x1234 }) ∧
    emits .getTemperatureAdcType s0
      = some (sent [0x11FF, 0x1102] ++ [.status] ++ sent [0x11FF, 0x1200], some { err := 0, value := 0x1234 }) := by decide
/-- `OPEN` that finds no device (R243), `OPEN` while open, `CLOSE` then anything (R275). -/
theorem test_lifecycle :
    emits .openDevice { s0 with cache := none, env := { answers with opens := [.notFound] } } = words [] 0x04 0 ∧
    (after .openDevice { s0 with cache := none }).map State.opened = some true ∧
    refusal (exec .openDevice s0) = some .alreadyOpen ∧ (after .closeDevice s0).map State.opened = some false ∧
    refusal (exec (.get 0) { s0 with cache := none }) = some .deviceClosed := by decide
/-- V60-7 in small: the cache holds the requested value though every word failed (E7). -/
theorem test_cache_despite_failure : (after (.setCooling true) { s0 with env := { answers with cmd := [some .error] } }).map
    (fun t => (t.rsp, t.cache.map Cache.cooling)) = some (some { err := 0x20, value := 0 }, some true) := by decide

/-- A word that is never answered (R272): nothing is answered, the cache is not written. -/
theorem test_hang_in_word : (after .setCaptureMode { s0 with env := { answers with cmd := [some .ok, none] } }).map
    (fun t => (t.rsp, t.trace.map Event.xfer, t.outstanding, t.cstate, t.cache)) =
      some (none, [.cmd 0x1005], some { xfer := .cmd 0x1008, timeoutMs := 10000 }, .idle, s0.cache) := by decide
/-- A settle that is never answered (R272, R190, R194): the words are sent, the cache is written. -/
theorem test_hang_in_settle : (after (.setItime 100) { s0 with env := { answers with bulk := [none] } }).map
    (fun t => (t.rsp, t.seq, t.outstanding, t.cstate, t.cache.map Cache.itimeMs)) =
      some (none, 4, some { xfer := .bulk 163840 10200, timeoutMs := 10200 }, .capturing, some 100) := by decide

/-- A fetched request runs; an undecodable one is answered; a second one while blocked is refused. -/
theorem test_step :
    afterStep (s0.withFetchWord 80 0x02130000000000000064) = after (.write16 0x13 100) s0 ∧
    afterStep (s0.withFetchWord 80 0x05000000000000000000) = some { s0 with rsp := some { err := 0x10, value := 0 } } ∧
    refusal (step ({ s0 with outstanding := some { xfer := .status, timeoutMs := 1 } }.withFetchWord 80 0)) =
      some .requestWhileBusy := by decide

/-! ## Witnesses: the hypotheses of each statement, met together by a concrete state and operands -/

/-- The cache of S0. -/
def c0 : Cache := Cache.ofDefaults refDefaults

/-- S0, closed. -/
def closed0 : State := { s0 with cache := none }

/-- S0, blocked in a command word. -/
def blocked0 : State := { s0 with outstanding := some { xfer := .cmd 0x1006, timeoutMs := 10000 } }

/-- S0 with other answers. -/
def answeredBy (e : Env) : State := { s0 with env := e }

theorem witness_ready : Ready s0 c0 := by decide
theorem witness_available : Available s0 c0 := by decide
theorem witness_DecodeInvertsEncode : (Instr.setPwm (-2 ^ 31)).WellFormed = true ∧
    (Instr.captureFrames (2 ^ 32 - 1) (2 ^ 32 - 1)).WellFormed = true := by decide
theorem witness_DecodedWordIsTheEncoding : decode 0x400000000000FFFFFFF6 = .ok (.setPwm (-10)) := by decide
theorem witness_StepRunsDecodedRequest :
    (s0.withFetchWord 80 0x20000000000000000000).reqs = 0x20000000000000000000 :: [] ∧
    (s0.withFetchWord 80 0x20000000000000000000).outstanding = none ∧
    decode 0x20000000000000000000 = .ok .setCaptureMode := by decide
theorem witness_UndecodableRequestAnswersNotSupported :
    (s0.withFetchWord 80 0x30000000000000000002).reqs = 0x30000000000000000002 :: [] ∧
    Available (s0.withFetchWord 80 0x30000000000000000002) c0 ∧
    ∀ row ∈ opcodeRows, (0x30000000000000000002 : ReqWord) &&& row.2 ≠ row.1 :=
  ⟨by decide, by decide, by simp [opcodeRows]⟩
theorem witness_UndecodableRequestIsAnsweredWhileClosedToo :
    (closed0.withFetchWord 80 0x05000000000000000000).reqs = 0x05000000000000000000 :: [] ∧
    (closed0.withFetchWord 80 0x05000000000000000000).outstanding = none ∧
    (closed0.withFetchWord 80 0x05000000000000000000).cache = none ∧
    ∀ row ∈ opcodeRows, (0x05000000000000000000 : ReqWord) &&& row.2 ≠ row.1 :=
  ⟨by decide, by decide, by decide, by simp [opcodeRows]⟩
theorem witness_StepWithoutRequestKeepsState : s0.reqs = [] ∧ blocked0.reqs = [] := by decide
theorem witness_WriteBitSendsOneControlWord : Ready s0 c0 ∧
    ((0x00 : Byte), s0.cfg.idxCooling) ∈ [((0x00 : Byte), s0.cfg.idxCooling), (0x01, s0.cfg.idxContinuous),
      (0x02, s0.cfg.idxExttrig), (0x03, s0.cfg.idxInvert)] ∧
    ((0x03 : Byte), s0.cfg.idxInvert) ∈ [((0x00 : Byte), s0.cfg.idxCooling), (0x01, s0.cfg.idxContinuous),
      (0x02, s0.cfg.idxExttrig), (0x03, s0.cfg.idxInvert)] ∧
    s0.replies.cmd 0 = some .ok ∧ (Transport.ok, ResultClass.ok, (0x00 : Byte)) ∈ answerClasses ∧
    (answeredBy { answers with cmd := [some .error] }).replies.cmd 0 = some .error ∧
    (Transport.error, ResultClass.generic, (0x20 : Byte)) ∈ answerClasses ∧
    s0.cfg.ctlLayout = .shifted ∧ 4 ≤ (0x04 : Byte).toNat ∧ Available s0 c0 := by decide
theorem witness_Write16BankSelectSequence : Ready s0 c0 ∧ 
    Answered s0 (sent (write16Words s0.cfg { sub := .a, k := 3 } 100)) (List.replicate 5 .ok) := by decide
theorem witness_Write16TimingSequence : Ready s0 c0 ∧ 
    Answered s0 (sent (write16Words s0.cfg { sub := .t, k := 1 } 0x0102)) (List.replicate 3 .ok) ∧
    Answered s0 (sent (write16Words s0.cfg { sub := .t, k := 2 } 0x0102)) (List.replicate 4 .ok) := by decide
theorem witness_Write16ExtendedSequence : Ready s0 c0 ∧ 
    Answered s0 (sent (write16Words s0.cfg { sub := .x, k := 2 } 0x0FFF)) (List.replicate 4 .ok) := by decide
/-- An id no 16-bit register has. -/
abbrev NotReg16 (id : Byte) : Prop :=
  ¬ (0x10 ≤ id.toNat ∧ id.toNat ≤ 0x13) ∧ ¬ (0x20 ≤ id.toNat ∧ id.toNat ≤ 0x23) ∧ ¬ (0x30 ≤ id.toNat ∧ id.toNat ≤ 0x33)
theorem witness_Write16OtherIdIsNoSuchRegister :
    Available s0 c0 ∧ NotReg16 0x0F ∧ NotReg16 0x14 ∧ NotReg16 0x1F ∧ NotReg16 0x24 ∧ NotReg16 0x34 := by decide
theorem witness_Write32SensorWordSequence : Ready s0 c0 ∧ 
    Answered s0 (sent (write32Words s0.cfg 0x12345678)) (List.replicate 6 .ok) := by decide
theorem witness_Write32OtherIdIsNoSuchRegister : Available s0 c0 ∧ (0x51 : Byte) ≠ 0x50 := by decide
/-- A good response, and one whose transport failed. -/
theorem witness_AuxiliaryReadReturnsTemperatureField : Ready s0 c0 ∧
    (Instr.read16 0x40, s0.cfg.auxTemperature) ∈
      [(Instr.read16 0x40, s0.cfg.auxTemperature), (.read16 0x41, s0.cfg.auxAdcType),
        (.getTemperatureAdu, s0.cfg.auxTemperature), (.getTemperatureAdcType, s0.cfg.auxAdcType)] ∧
    Answered s0 (auxReadXfers s0.cfg s0.cfg.auxTemperature) (List.replicate 5 .ok) ∧
    s0.replies.status 0 = some status34 ∧ s0.cfg.validOf = .always ∧ s0.cfg.tempOf = .byte8Low ∧
    Answered (answeredBy { answers with status := [some { status34 with transport := .timeout }] })
      (auxReadXfers s0.cfg s0.cfg.auxTemperature) [.ok, .ok, .timeout, .ok, .ok] := by decide
theorem witness_Read16OtherIdsEmitNothing : Available s0 c0 ∧
    (0x33 : Byte) ∈ ([0x00, 0x01, 0x02, 0x03, 0x10, 0x11, 0x12, 0x13, 0x20, 0x21, 0x22, 0x23, 0x30, 0x31, 0x32, 0x33,
      0x50] : List Byte) ∧
    (0x34 : Byte) ∉ ([0x00, 0x01, 0x02, 0x03, 0x10, 0x11, 0x12, 0x13, 0x20, 0x21, 0x22, 0x23, 0x30, 0x31, 0x32, 0x33,
      0x40, 0x41, 0x50] : List Byte) := by decide
theorem witness_RawOperationsKeepTheCache :
    Instr.encodeAndSend ∈ [Instr.writeBit 0 true, .write16 0 0, .write32 0 0, .read16 0, .encodeAndSend] ∧
    (after .encodeAndSend s0).isSome = true ∧
    Instr.writeBit 0 true ∈ [Instr.writeBit 0 true, .write16 0 0, .write32 0 0, .read16 0] ∧
    (after (.writeBit 0 true) s0).isSome = true := by decide
theorem witness_Decode16InvertsWrite16 : refcfg.Admissible ∧ refcfg.banksel0 ≠ refcfg.banksel1 := by decide
theorem witness_CommandWordDeterminesSpaceAndPayload : refcfg.Admissible ∧ Space.ctl.size = 0x100 ∧
    Space.w32.size = 0x400 ∧ 3 < 4 ∧ Space.woiYinc.size = 0x1000 := by decide
theorem witness_SequencesAreRecognisedByTheirFirstWords : refcfg.Admissible := by decide
theorem witness_EncodeAndSendWritesTheWordTwice : Ready s0 c0 ∧ 
    Answered s0 (sent (encodeWords s0.cfg c0)) (List.replicate 14 .ok) := by decide
/-- 350 Hz asked as 351 over the full frame: a delay; 350 Hz over a window 400 wide: none. -/
theorem witness_SetFrameRateProgramsTheDelay : Ready s0 c0 ∧ 0 < 351 ∧ c0.woiXs.toNat ≤ c0.woiXe.toNat ∧
    c0.woiYs.toNat ≤ c0.woiYe.toNat ∧ 350 = min 351 350 ∧
    true = !rateReached 350 ((c0.woiXe.toNat - c0.woiXs.toNat + 1) * (c0.woiYe.toNat - c0.woiYs.toNat + 1)) ∧
    2857 = min (1000000 / 350 + if 350 ≤ 2 * (1000000 % 350) then 1 else 0) 65535 ∧
    Ready { s0 with cache := some { c0 with woiXe := 399 } } { c0 with woiXe := 399 } ∧
    false = !rateReached 350 ((399 - c0.woiXs.toNat + 1) * (c0.woiYe.toNat - c0.woiYs.toNat + 1)) ∧
    Answered s0 (sent (frameRateWords s0.cfg true 350)) (List.replicate 7 .ok) ∧
    Answered s0 (sent (frameRateWords s0.cfg false 350)) [.ok] := by decide +kernel
theorem witness_SetFrameRateRefusedInputs : Available s0 c0 ∧
    Available { s0 with cache := some { c0 with woiXs := 320 } } { c0 with woiXs := 320 } ∧
    (319 : BitVec 12).toNat < (320 : BitVec 12).toNat := by decide
theorem witness_RateTestIsTheRealComparison : 0 < 1 ∧ 0 < 81920 := by decide
theorem witness_ValidWindowsAlwaysUseADelay : 0 < 350 ∧ c0.woiXs.toNat < c0.woiXe.toNat ∧ c0.woiXe.toNat < 320 ∧
    c0.woiYs.toNat < c0.woiYe.toNat ∧ c0.woiYe.toNat < 256 := by decide
theorem witness_FrameDelayRoundsToNearest : 0 < 1 ∧ 0 < 128 := by decide
theorem witness_SetCaptureModeConfigures : Ready s0 c0 ∧ 
    Answered s0 (sent [ctlWord s0.cfg s0.cfg.idxContinuous true, ctlWord s0.cfg s0.cfg.idxExttrig false]) (List.replicate 2 .ok) := by decide
theorem witness_SetWoiSendsAndCachesMaskedBounds : Ready s0 c0 ∧ 
    Answered s0 (sent (woiWords s0.cfg 10 20 0x1234 0xFFFF)) (List.replicate 6 .ok) := by decide
theorem witness_SetItimeInternalWritesTicks : Ready s0 c0 ∧ (4294960000 : Word32).toNat = 107374 * 40000 ∧
    Answered s0 (sent (itimeWords s0.cfg 107374)) (List.replicate 4 .ok) ∧ Available s0 c0 ∧ 107374 < 107375 := by
  decide +kernel
theorem witness_SetItimeSettlesWithNewTimeout : Ready s0 c0 ∧ (4294960000 : Word32).toNat = 107374 * 40000 ∧
    Answered s0 (sent (itimeWords s0.cfg 107374) ++ [.bulk 163840 224748]) [.ok, .ok, .ok, .ok, .timeout] ∧
    Available s0 c0 ∧ 107374 < 107375 := by decide +kernel
/-- The last region that fits, the first that does not, no frame at all. -/
theorem witness_CaptureFramesFillsDisjointRegions : Available s0 c0 ∧ 1 = 163839 / 81920 ∧ 0 = 81919 / 81920 ∧
    0xFFFD8000 + 1 * 163840 - 1 ≤ 0xFFFFFFFF ∧ Answered s0 (List.replicate 1 (.bulk 163840 10020)) [.timeout] ∧
    Answered s0 (List.replicate 0 (.bulk 163840 10020)) [] ∧
    s0.replies.bulk 0 = some { transport := .timeout, bytes := [] } ∧
    0xFFFFFFFF < 0xFFFD8001 + 1 * 163840 - 1 := by decide +kernel
/-- Two frames: one byte arrived of the first, none of the second. -/
theorem witness_CaptureFramesFillsDisjointRegions_short :
    Answered (answeredBy { answers with
        bulk := [some { transport := .ok, bytes := [0xAA] }, some { transport := .ok, bytes := [] }] })
      (List.replicate 2 (.bulk 163840 10020)) [.underrun, .generic] := by decide +kernel
/-- The boundaries of `k` for a read of two bytes, and the last address. -/
theorem witness_CaptureDataReportsClassAndCount : Available s0 c0 ∧ 0 < 2 ∧ 0xFFFFFFFE + 2 - 1 ≤ 0xFFFFFFFF ∧
    (answeredBy { answers with bulk := [some { transport := .ok, bytes := [0xAA] }] }).replies.bulk 0
      = some { transport := .ok, bytes := [0xAA] } ∧
    0 = min ([] : List Byte).length 2 ∧ 1 = min ([0xAA] : List Byte).length 2 ∧
    2 = min ([0xAA, 0xBB] : List Byte).length 2 ∧ s0.replies.bulk 0 = some { transport := .timeout, bytes := [] } ∧
    0xFFFFFFFF < 0xFFFFFFFF + 2 - 1 := by decide
/-- The fifteen answers of a flag setter's transactions. -/
theorem witness_flagSetter :
    Answered s0 (flagSetterXfers s0.cfg { c0 with gain := true }) (List.replicate 14 .ok ++ [.timeout]) ∧
    Answered s0 (flagSetterXfers s0.cfg { c0 with power := 5 }) (List.replicate 14 .ok ++ [.timeout]) ∧
    Answered s0 (flagSetterXfers s0.cfg { c0 with outputfactor := 4 }) (List.replicate 14 .ok ++ [.timeout]) := by decide
theorem witness_OneBitFlagSettersReconfigureAndSettle : Ready s0 c0 ∧
    (Instr.setGain true, (fun c : Cache => { c with gain := true }), 28, false) ∈ oneBitSetters true ∧
    (Instr.setXinv true, (fun c : Cache => { c with xinv := true }), 7, true) ∈ oneBitSetters true ∧
    Answered s0 (flagSetterXfers s0.cfg { c0 with gain := true }) (List.replicate 14 .ok ++ [.timeout]) :=
  ⟨witness_ready, .head _, .tail _ (.head _), witness_flagSetter.1⟩
theorem witness_LevelSettersCacheUnmaskedAndSendMasked : Ready s0 c0 ∧
    (Instr.setPower 5, (fun c : Cache => { c with power := 5 }), 26, 2) ∈ levelSetters 5 ∧
    Answered s0 (flagSetterXfers s0.cfg { c0 with power := 5 }) (List.replicate 14 .ok ++ [.timeout]) :=
  ⟨witness_ready, .head _, witness_flagSetter.2.1⟩
theorem witness_SetOutputfactorPacksItsCode : Ready s0 c0 ∧
    Answered s0 (flagSetterXfers s0.cfg { c0 with outputfactor := 4 }) (List.replicate 14 .ok ++ [.timeout]) :=
  ⟨witness_ready, witness_flagSetter.2.2⟩
theorem witness_SetPwmWritesTheClampedValue : Ready s0 c0 ∧
    0 = (if (-1 : Int) < 0 then 0 else if 4095 < (-1 : Int) then 4095 else (-1 : Int).toNat) ∧
    4095 = (if (4096 : Int) < 0 then 0 else if 4095 < (4096 : Int) then 4095 else (4096 : Int).toNat) ∧
    4095 = (if (4095 : Int) < 0 then 0 else if 4095 < (4095 : Int) then 4095 else (4095 : Int).toNat) ∧
    Answered s0 (sent (write16Words s0.cfg pwmReg 4095)) (List.replicate 5 .ok) := by decide
theorem witness_SetCoolingAndInvertWriteTheirBit : Ready s0 c0 ∧ s0.replies.cmd 0 = some .ok ∧
    (Transport.ok, ResultClass.ok, (0x00 : Byte)) ∈ answerClasses := by decide
theorem witness_SetAnalogWritesAndMirrors : Available s0 c0 ∧
    ((0x10 : Byte), ({ sub := .a, k := 0 } : Reg16), fun c : Cache => { c with adc := 5 }) ∈ mirrors 5 ∧
    Answered s0 (sent (write16Words s0.cfg { sub := .a, k := 0 } 5)) (List.replicate 5 .ok) ∧
    Answered s0 (sent (write16Words s0.cfg { sub := .a, k := 3 } 4095)) (List.replicate 5 .ok) ∧ NotReg16 0x14 :=
  ⟨witness_available, .head _, by decide, by decide, by decide⟩
theorem witness_GetAnswersTheCachedValue : Available s0 c0 ∧ ((29 : Byte), (350 : Word32)) ∈ cacheRegisters c0 ∧
    (∀ v, ((30 : Byte), v) ∉ cacheRegisters c0) ∧ ∀ v, ((44 : Byte), v) ∉ cacheRegisters c0 :=
  ⟨witness_available, by decide, by intro v; simp [cacheRegisters], by intro v; simp [cacheRegisters]⟩
/-- Answered `Ok`, and answered that no device was found. -/
theorem witness_OpenAnsweredOkResets : closed0.outstanding = none ∧ closed0.cache = none ∧
    closed0.env.opens.head? = some .ok ∧ Available s0 c0 ∧
    ({ closed0 with env := { answers with opens := [.notFound] } } : State).outstanding = none ∧
    ({ closed0 with env := { answers with opens := [.notFound] } } : State).cache = none ∧
    ({ closed0 with env := { answers with opens := [.notFound] } } : State).env.opens.head? = some .notFound := by decide
theorem witness_CloseDestroysTheCache : Available s0 c0 := witness_available
theorem witness_ClosedRefusesEveryOperationButOpen :
    closed0.outstanding = none ∧ closed0.cache = none ∧ Instr.closeDevice ≠ .openDevice := by decide
theorem witness_RequestWhileBlockedIsRefused :
    blocked0.outstanding = some { xfer := .cmd 0x1006, timeoutMs := 10000 } ∧
    (blocked0.withFetchWord 80 5).reqs = 5 :: [] := by decide
/-- A sequence that stops at position `k` of the operation `i` in transaction `x` under cache `c'`, after answers `rs`. -/
abbrev StopsAt (s : State) (i : Instr) (k : Nat) (x : Xfer) (c' : Cache) (rs : List ResultClass) : Prop :=
  (sequenceOf s.cfg c0 i)[k]? = some (x, c') ∧ Answered s (((sequenceOf s.cfg c0 i).map Prod.fst).take k) rs ∧
    s.replies.classes (((sequenceOf s.cfg c0 i).map Prod.fst).take k ++ [x]) = none

/-- The first word, a word in the middle, the settle of a flag setter. -/
theorem witness_UnansweredWordBlocksTheSequencer : Available s0 c0 ∧
    StopsAt (answeredBy { answers with cmd := [none] }) (.setGain true) 0 (.cmd 0x1006) { c0 with gain := true } [] ∧
    StopsAt (answeredBy { answers with cmd := List.replicate 7 (some .error) ++ [none] }) (.setGain true) 7 (.cmd 0x1003)
      { c0 with gain := true } (List.replicate 7 .generic) ∧
    StopsAt (answeredBy { answers with bulk := [none] }) (.setGain true) 14 (.bulk 163840 10020) { c0 with gain := true }
      (List.replicate 14 .ok) := by decide
/-- The last word of a setter that writes the cache after its words, the settle of `SET_ITIME` with the new cache, a status
read, the second frame of a capture. -/
theorem witness_UnansweredWordBlocksTheSequencer_late :
    StopsAt (answeredBy { answers with cmd := [some .ok, none] }) .setCaptureMode 1 (.cmd 0x1008) c0 [.ok] ∧
    StopsAt (answeredBy { answers with bulk := [none] }) (.setItime 100) 4 (.bulk 163840 10200)
      { c0 with itimeMs := 100, captureTimeoutMs := 5100 } (List.replicate 4 .ok) ∧
    StopsAt (answeredBy { answers with status := [none] }) (.read16 0x40) 2 .status c0 [.ok, .ok] ∧
    StopsAt (answeredBy { answers with bulk := [some { transport := .timeout, bytes := [] }, none] })
      (.captureFrames 0x1000 163840) 1 (.bulk 163840 10020) c0 [.timeout] := by decide +kernel
theorem witness_UnansweredReadStaysCapturing : Available (answeredBy { answers with bulk := [none] }) c0 ∧
    (answeredBy { answers with bulk := [none] }).replies.bulk 0 = none ∧
    0 < 1 ∧ 0xFFFFFFFF + 1 - 1 ≤ 0xFFFFFFFF := by decide

/-- A state in the middle of a run: the timing selector asserted, one byte of the frame buffer written, `CLOSE` requested. -/
def midway : State where
  cfg := refcfg
  reqs := [0x7F000000000000000000]
  env := answers
  draws := { cmd := 1, status := 0, bulk := 0, opens := 0, bytes := 3 }
  cache := some c0
  cstate := .configured
  err := 0x01
  seq := 3
  outstanding := none
  rsp := some { err := 0x01, value := 0 }
  trace := [{ xfer := .cmd 0x2500, result := .timeout }]
  tsel := 0x00
  asel := 0xFF
  auxa := 0xFF
  framelog := []
  buf := [(0x1000, 0xAA)]

theorem witness_StepKeepsTheInvariant : Inv midway ∧ ∃ t, step midway = .next t := by
  refine ⟨⟨by decide, ?_, ?_, by decide, ?_, by decide, by decide, by decide⟩, _, rfl⟩
  · rintro c ⟨⟩; decide
  · rintro c ⟨⟩; decide
  · rintro r ⟨⟩; decide
theorem witness_OnlyCapturesWriteTheFrameBuffer : (∃ t, exec .closeDevice midway = .next t) ∧
    (∀ b n, Instr.closeDevice ≠ .captureFrames b n) ∧ ∀ b n, Instr.closeDevice ≠ .captureData b n :=
  ⟨⟨_, rfl⟩, (by intro b n h; cases h), (by intro b n h; cases h)⟩
theorem witness_TransactionsDoNotDependOnAnswers : Instr.setCaptureMode ≠ .openDevice ∧
    (after .setCaptureMode s0).map State.outstanding = some none ∧
    (after .setCaptureMode { s0 with
      env := { answers with cmd := [some .timeout, some .error] }, draws := midway.draws }).map State.outstanding
      = some none := by decide
theorem witness_ErrorsCombineInAnyOrder :
    [ResultClass.timeout, .generic, .ok].Perm [.ok, .generic, .timeout] := by decide
theorem witness_ErrorFlagValues : s0.err = 0 := by decide
theorem witness_TransportOutcomesAreClassified : 0 < 3 ∧ 0 ≤ 3 ∧ 1 ≤ 3 ∧ 2 ≤ 3 ∧ 3 ≤ 3 := by decide
theorem witness_SendIsOneClassifiedTransaction : s0.outstanding = none ∧ s0.replies.cmd 0 = some .ok ∧
    (Transport.ok, ResultClass.ok, (0x00 : Byte)) ∈ answerClasses := by decide
theorem witness_StatusReadIsOneClassifiedTransaction : s0.outstanding = none ∧ s0.replies.status 0 = some status34 ∧
    (status34.transport, ResultClass.ok, (0x00 : Byte)) ∈ answerClasses := by decide
/-- None, one, and both of two bytes, and a read that timed out. -/
theorem witness_BulkReadIsOneClassifiedTransaction : s0.outstanding = none ∧ 0 < 2 ∧
    ([] : List Byte).length ≤ 2 ∧ ([0xAA] : List Byte).length ≤ 2 ∧ ([0xAA, 0xBB] : List Byte).length ≤ 2 ∧
    (answeredBy { answers with bulk := [some { transport := .ok, bytes := [0xAA, 0xBB] }] }).replies.bulk 0
      = some { transport := .ok, bytes := [0xAA, 0xBB] } ∧
    s0.replies.bulk 0 = some { transport := .timeout, bytes := [] } := by decide
/-- A cache other than that of `s0` that agrees with it in the CW9808 fields. -/
theorem witness_EncodeAndSendBodyIgnoresTheCache :
    let d : Cache := { c0 with pwm := 7, fan := true }
    s0.cache = some c0 ∧ (after .encodeAndSend s0).isSome = true ∧ d ≠ c0 ∧
    d.gain = c0.gain ∧ d.xinv = c0.xinv ∧ d.yinv = c0.yinv ∧ d.linerepeat = c0.linerepeat ∧ d.refout = c0.refout ∧
    d.reset = c0.reset ∧ d.skim = c0.skim ∧ d.power = c0.power ∧ d.current = c0.current ∧ d.bias = c0.bias ∧
    d.bandwidth = c0.bandwidth ∧ d.outputfactor = c0.outputfactor ∧ d.itr = c0.itr ∧
    d.multiplereadouts = c0.multiplereadouts ∧ d.nondestructive = c0.nondestructive := by decide

end Sys2Proof.Tests
end

section
/-! The invariant of XCP (O49, O50) and what reset leaves (O51): every action of an operation keeps the invariant of a state
that has not answered yet, the answer closes it, and so does every operation and every step. -/

namespace Sys2Proof.Machine

open Sys2Proof.Config

/-! ### The derived cache fields -/

/-- The cache fields the invariant speaks of: the capture timeout follows the integration time (10_state R26) and the window
increments are 1 (10_state R21). -/
structure Cache.Derived (c : Cache) : Prop where
  timeout : c.captureTimeoutMs = BitVec.ofNat 32 Config.baseTimeoutMs + c.itimeMs
  increments : c.woiXinc = 1 ∧ c.woiYinc = 1

/-- The fields `Cache.Derived` reads. -/
def Cache.derivedPart (c : Cache) : Word32 × Word32 × BitVec 12 × BitVec 12 :=
  (c.itimeMs, c.captureTimeoutMs, c.woiXinc, c.woiYinc)

theorem Cache.Derived.of_derivedPart_eq {c c' : Cache} (h : c.Derived) (e : c'.derivedPart = c.derivedPart) :
    c'.Derived := by
  simp only [Cache.derivedPart, Prod.mk.injEq] at e
  obtain ⟨hi, ht, hx, hy⟩ := e
  exact ⟨by rw [ht, hi, h.timeout], by rw [hx, hy]; exact h.increments⟩

theorem Cache.ofDefaults_derived (d : Defaults) : (Cache.ofDefaults d).Derived := ⟨rfl, rfl, rfl⟩

theorem Cache.Derived.withItime {c : Cache} (h : c.Derived) (ms : Nat) : (c.withItime ms).Derived :=
  ⟨BitVec.ofNat_add _ _, h.increments⟩

theorem Cache.derivedPart_writeMirror (c : Cache) (r : Reg16) (v : Half) :
    (c.writeMirror r v).derivedPart = c.derivedPart := by
  unfold Cache.writeMirror
  split <;> rfl

/-! ### What the invariant gives and asks -/

theorem Inv.derived {s : State} (h : Inv s) {c : Cache} (hc : s.cache = some c) : c.Derived :=
  ⟨h.timeout c hc, h.increments c hc⟩

theorem Inv.cstate_ne_capturing {s : State} (h : Inv s) (hi : s.outstanding = none) : s.cstate ≠ .capturing := by
  rw [Ne, h.capturing, hi]
  rintro ⟨o, ho, -⟩
  cases ho

theorem State.blocked_eq_false_iff (s : State) : s.blocked = false ↔ s.outstanding = none := by
  simp [State.blocked]

/-- No class sets a reserved bit of `err` (60_exceptions R260). -/
theorem ResultClass.flag_reserved (r : ResultClass) : r.flag &&& 0xC0 = 0 := by
  cases r <;> rfl

theorem or_flag_reserved {b : Byte} (h : b &&& 0xC0 = 0) (r : ResultClass) : (b ||| r.flag) &&& 0xC0 = 0 := by
  rw [BitVec.and_comm, BitVec.and_or_distrib_left, BitVec.and_comm _ b, BitVec.and_comm _ r.flag, h, r.flag_reserved]
  rfl

/-- The image of a selector after one more transaction: a word of its space replaces it. -/
theorem lastPayload_append_cmd (base : CmdWord) (tr : List Event) (w : CmdWord) (r : ResultClass) :
    lastPayload base (tr ++ [⟨.cmd w, r⟩]) = if inSpace base w then lo8 w else lastPayload base tr := by
  simp [lastPayload, payloadAfter]

/-- A status or bulk read moves no selector. -/
theorem lastPayload_append_read (base : CmdWord) (tr : List Event) {x : Xfer} (hx : ∀ w, x ≠ .cmd w) (r : ResultClass) :
    lastPayload base (tr ++ [⟨x, r⟩]) = lastPayload base tr := by
  cases x with
  | cmd w => exact absurd rfl (hx w)
  | status | bulk => simp [lastPayload, payloadAfter]

/-! ### What the single updates do to the invariant -/

theorem Inv.begin {s : State} (h : Inv s) : Inv s.begin :=
  { h with errReserved := BitVec.zero_and, rspReserved := nofun, silent := fun _ => rfl }

theorem Inv.raise {s : State} (h : Inv s) (r : ResultClass) : Inv (s.raise r) :=
  { h with errReserved := or_flag_reserved h.errReserved r }

theorem Inv.afterTaking {s : State} (h : Inv s) (e : Env) (d : Draws) : Inv (s.afterTaking e d) := { h with }

/-- An answered word: the images move with the trace. -/
theorem Inv.answered_noteSelector {s : State} (h : Inv s) (w : CmdWord) (r : ResultClass) :
    Inv (((s.answered (.cmd w) r).raise r).noteSelector w) :=
  { h with
    errReserved := or_flag_reserved h.errReserved r
    selectors := by
      have hs := h.selectors
      simp only [State.selectors, Prod.mk.injEq] at hs
      obtain ⟨ht, ha, hx⟩ := hs
      simp [State.selectors, lastPayload_append_cmd, ht, ha, hx] }

theorem Inv.answered_read {s : State} (h : Inv s) {x : Xfer} (hx : ∀ w, x ≠ .cmd w) (r : ResultClass) :
    Inv (s.answered x r) :=
  { h with
    selectors := by
      simp only [State.answered_trace, lastPayload_append_read _ _ hx]
      exact h.selectors }

/-- Blocking in a transaction: `Capturing` is entered exactly in a bulk read (44_capture R190). -/
theorem Inv.unanswered {s : State} (h : Inv s) (hi : s.outstanding = none) (hr : s.rsp = none) (x : Xfer) :
    Inv (s.unanswered x) :=
  { h with
    capturing := by
      have hc := h.cstate_ne_capturing hi
      cases x <;> simp [stateDuring, Xfer.isBulk, hc]
    silent := fun _ => hr }

theorem Inv.withCache {s : State} (h : Inv s) {c : Cache} (hc : c.Derived) : Inv { s with cache := some c } :=
  { h with
    timeout := by rintro _ ⟨⟩; exact hc.timeout
    increments := by rintro _ ⟨⟩; exact hc.increments }

theorem Inv.destroyCache {s : State} (h : Inv s) : Inv s.destroyCache :=
  { h with
    timeout := by rintro _ ⟨⟩
    increments := by rintro _ ⟨⟩ }

/-- Reset brings the images, the trace and `cstate` back together; the frame buffer keeps its form. -/
theorem Inv.resetByOpen {s : State} (h : Inv s) (hi : s.outstanding = none) : Inv s.resetByOpen where
  buffer := h.buffer
  timeout := by rintro _ ⟨⟩; exact (Cache.ofDefaults_derived _).timeout
  increments := by rintro _ ⟨⟩; exact (Cache.ofDefaults_derived _).increments
  errReserved := BitVec.zero_and
  rspReserved := h.rspReserved
  selectors := rfl
  capturing := by simp [hi]
  silent := h.silent

theorem Inv.answerUndecodable {s : State} (h : Inv s) (hi : s.outstanding = none) : Inv s.answerUndecodable :=
  { h with
    rspReserved := by rintro _ ⟨⟩; rfl
    silent := fun ho => absurd hi ho }

/-- Filling a region inside the address space keeps the canonical form of the frame buffer (20_memory R66). -/
theorem Inv.fillRegion {s : State} (h : Inv s) {a n : Nat} (hn : a + n - 1 ≤ Config.lastBufAddr)
    (r : BulkReply) : Inv (s.fillRegion a n (receive n r)) :=
  { h with
    buffer := by
      rw [State.fillRegion_buf]
      exact Memory.write_wf _ _ _ h.buffer (.inr (by rwa [s.fillRegion_length])) }

/-! ### An operation that has not answered yet -/

/-- Between its start and its response: the invariant holds, nothing is answered, and the installation is `P`. -/
structure Running (P : Params) (s : State) : Prop where
  inv : Inv s
  rsp : s.rsp = none
  cfg : s.cfg = P

/-- An operation that has ended or hangs: the invariant holds and the installation is `P`. -/
def Kept (P : Params) (s : State) : Prop := Inv s ∧ s.cfg = P

section Actions

variable {P : Params} {s : State}

theorem Running.kept (h : Running P s) : Kept P s := ⟨h.inv, h.cfg⟩

theorem Inv.running_begin (h : Inv s) : Running s.cfg s.begin := ⟨h.begin, rfl, rfl⟩

theorem Running.raise (h : Running P s) (r : ResultClass) : Running P (s.raise r) := ⟨h.inv.raise r, h.rsp, h.cfg⟩

theorem Running.unanswered (h : Running P s) (hb : s.blocked = false) (e : Env) (d : Draws) (x : Xfer) :
    Running P ((s.afterTaking e d).unanswered x) :=
  ⟨(h.inv.afterTaking e d).unanswered (s.blocked_eq_false_iff.1 hb) h.rsp x, h.rsp, h.cfg⟩

theorem Running.answered_read (h : Running P s) (e : Env) (d : Draws) {x : Xfer} (hx : ∀ w, x ≠ .cmd w)
    (r : ResultClass) : Running P ((s.afterTaking e d).answered x r) :=
  ⟨(h.inv.afterTaking e d).answered_read hx r, h.rsp, h.cfg⟩

/-- A guarded action keeps the invariant if it does so when it is taken. -/
theorem Running.onward (h : Running P s) {f : State → State}
    (hf : s.outstanding = none → Running P (f s)) : Running P (s.onward f) := by
  unfold State.onward
  split
  · exact h
  next hb => exact hf (s.blocked_eq_false_iff.1 (by simpa using hb))

theorem Running.storeCache (h : Running P s) {c : Cache} (hc : c.Derived) : Running P (s.storeCache c) :=
  h.onward fun _ => ⟨h.inv.withCache hc, h.rsp, h.cfg⟩

theorem Running.storeConfigured (h : Running P s) : Running P (s.storeCstate .configured) :=
  h.onward fun hi => ⟨{ h.inv with capturing := by simp [hi] }, h.rsp, h.cfg⟩

/-- The one response: `err` so far, which has no reserved bit, on an idle sequencer. -/
theorem Running.respond (h : Running P s) (v : Word32) : Kept P (s.respond v) := by
  refine ⟨?_, by rw [State.respond_cfg, h.cfg]⟩
  unfold State.respond State.onward
  split
  · exact h.inv
  next hb =>
    have hi := s.blocked_eq_false_iff.1 (by simpa using hb)
    exact { h.inv with
      rspReserved := by rintro _ ⟨⟩; exact h.inv.errReserved
      silent := fun ho => absurd hi ho }

theorem Running.send (h : Running P s) (w : CmdWord) : Running P (s.send w) := by
  rcases s.send_cases w with ⟨-, hs⟩ | ⟨hb, -, e, d, hs, -⟩ | ⟨-, a, e, d, -, hs, -⟩ <;> rw [hs]
  · exact h
  · exact h.unanswered hb e d _
  · exact ⟨(h.inv.afterTaking e d).answered_noteSelector w _, h.rsp, h.cfg⟩

theorem Running.emit (ws : List CmdWord) : ∀ {s : State}, Running P s → Running P (s.emit ws) := by
  induction ws with
  | nil => exact fun h => h
  | cons w ws ih => exact fun h => ih (h.send w)

theorem Running.readStatus (h : Running P s) : Running P s.readStatus.1 := by
  rcases s.readStatus_cases with ⟨-, hs⟩ | ⟨hb, -, e, d, hs, -⟩ | ⟨-, r, e, d, -, hs, -⟩ <;> rw [hs]
  · exact h
  · exact h.unanswered hb e d _
  · exact ((h.answered_read e d (x := .status) nofun _).raise _).raise _

theorem Running.bulkRead (h : Running P s) (n t : Nat) : Running P (s.bulkRead n t).1 := by
  rcases s.bulkRead_cases n t with ⟨-, hs⟩ | ⟨hb, -, e, d, hs, -⟩ | ⟨-, r, e, d, -, hs, -⟩ <;> rw [hs]
  · exact h
  · exact h.unanswered hb e d _
  · exact h.answered_read e d (x := .bulk n t) nofun _

/-- What a bulk read hands back is a reply, cut and classified. -/
theorem State.bulkRead_received (s : State) {n t : Nat} {got : Received} (h : (s.bulkRead n t).2 = some got) :
    ∃ r, got = receive n r := by
  rcases s.bulkRead_cases n t with ⟨-, hs⟩ | ⟨-, -, e, d, hs, -⟩ | ⟨-, r, e, d, -, hs, -⟩ <;> rw [hs] at h <;> cases h
  exact ⟨r, rfl⟩

theorem Running.settle (h : Running P s) (c : Cache) : Running P (s.settle c) := by
  unfold State.settle
  dsimp only
  split
  · exact (h.bulkRead _ _).raise _
  · exact h.bulkRead _ _

theorem Running.readAux (h : Running P s) (a : Byte) : Kept P (s.readAux a) :=
  ((((h.send _).send _).readStatus.send _).send _).respond _

theorem Running.fillRegion (h : Running P s) {a n : Nat} (hn : a + n - 1 ≤ Config.lastBufAddr)
    (r : BulkReply) : Running P (s.fillRegion a n (receive n r)) := ⟨h.inv.fillRegion hn r, h.rsp, h.cfg⟩

theorem Running.withFramelog (h : Running P s) (l : List ResultClass) : Running P { s with framelog := l } :=
  ⟨{ h.inv with }, h.rsp, h.cfg⟩

theorem Running.captureFrame (h : Running P s) {a : Nat} (ha : a + Config.frameBytes - 1 ≤ Config.lastBufAddr)
    (t : Nat) : Running P (s.captureFrame a t) := by
  have hb := h.bulkRead Config.frameBytes t
  unfold State.captureFrame
  dsimp only
  split
  next got hg =>
    obtain ⟨r, rfl⟩ := s.bulkRead_received hg
    exact Running.fillRegion (hb.withFramelog _) ha r
  · exact hb

/-- Every frame's region lies inside the region of the whole capture. -/
theorem Running.captureLoop (t n : Nat) : ∀ {s : State} {a : Nat}, Running P s →
    (0 < n → a + n * Config.frameBytes - 1 ≤ Config.lastBufAddr) → Running P (s.captureLoop t n a) := by
  induction n with
  | zero => exact fun h _ => h
  | succ n ih =>
    intro s a h hn
    have hn := hn (Nat.succ_pos n)
    rw [Nat.succ_mul] at hn
    refine ih (h.captureFrame ?_ t) fun _ => ?_ <;> omega

theorem Running.captureBytes (h : Running P s) {a n : Nat} (hn : a + n - 1 ≤ Config.lastBufAddr) (t : Nat) :
    Kept P (s.captureBytes a n t) := by
  have hb := h.bulkRead n t
  unfold State.captureBytes
  dsimp only
  split
  next got hg =>
    obtain ⟨r, rfl⟩ := s.bulkRead_received hg
    exact ((hb.raise _).fillRegion hn r).respond _
  · exact hb.kept

end Actions

/-! ### Operations -/

/-- If it is a next state, the invariant holds there and the installation is `P`. -/
def Keeps (P : Params) (o : Host.Outcome State Fault Refusal) : Prop := ∀ t, o = .next t → Kept P t

section Operations

variable {P : Params} {s : State}

theorem Kept.keeps (h : Kept P s) : Keeps P (.next s) := by
  rintro _ ⟨⟩; exact h

theorem keeps_refused (r : Refusal) : Keeps P (.refused r) := by
  rintro _ ⟨⟩

/-- An operation keeps the invariant if its body does from the started state, over a cache with the derived fields. -/
theorem Inv.keeps_accept (h : Inv s) {body : Cache → State → Host.Outcome State Fault Refusal}
    (hb : ∀ c, c.Derived → Running s.cfg s.begin → Keeps s.cfg (body c s.begin)) : Keeps s.cfg (s.accept body) := by
  intro t ht
  obtain ⟨c, ⟨-, hc⟩, ht⟩ := State.accept_next ht
  exact hb c (h.derived hc) h.running_begin t ht

/-- An error raised without a transaction, and the answer. -/
theorem Running.raise_respond (h : Running P s) (r : ResultClass) : Keeps P (.next ((s.raise r).respond 0)) :=
  ((h.raise r).respond 0).keeps

/-- A flag setter that leaves the derived cache fields alone. -/
theorem Inv.keeps_flagSetter (h : Inv s) {set : Cache → Cache} (hs : ∀ c, (set c).derivedPart = c.derivedPart) :
    Keeps s.cfg (s.flagSetter set) :=
  h.keeps_accept fun c hc hr =>
    ((((hr.storeCache (hc.of_derivedPart_eq (hs c))).emit _).settle _).respond 0).keeps

theorem Running.pwmBody (h : Running P s) {c : Cache} (hc : c.Derived) (v : Int) : Keeps P (.next (s.pwmBody c v)) :=
  (((h.emit _).storeCache (hc.of_derivedPart_eq (c.derivedPart_writeMirror _ _))).respond 0).keeps

theorem Inv.keeps_openDevice (h : Inv s) : Keeps s.cfg (execOpenDevice s) := by
  unfold execOpenDevice
  split
  · exact keeps_refused _
  next hb =>
    have hi := s.blocked_eq_false_iff.1 (by simpa using hb)
    split
    · exact keeps_refused _
    · obtain ⟨e, d, r, hr⟩ := s.begin.takeOpenReply_cases
      have ht : Running s.cfg (s.begin.afterTaking e d) := ⟨h.begin.afterTaking e d, rfl, rfl⟩
      simp only [hr]
      cases r with
      | ok => exact (Running.respond ⟨ht.inv.resetByOpen hi, rfl, rfl⟩ 0).keeps
      | notFound => exact ht.raise_respond _
      | error => exact ht.raise_respond _

/-- Every operation keeps the invariant and the installation. -/
theorem Inv.keeps_exec (h : Inv s) (i : Instr) : Keeps s.cfg (exec i s) := by
  cases i with
  | writeBit id d =>
    unfold exec execWriteBit
    refine h.keeps_accept fun c _ hr => ?_
    split
    · exact hr.raise_respond _
    · exact ((hr.send _).respond 0).keeps
  | write16 id v =>
    unfold exec execWrite16
    refine h.keeps_accept fun c _ hr => ?_
    split
    · exact hr.raise_respond _
    · exact ((hr.emit _).respond 0).keeps
  | write32 id v =>
    unfold exec execWrite32
    refine h.keeps_accept fun c _ hr => ?_
    split
    · exact ((hr.emit _).respond 0).keeps
    · exact hr.raise_respond _
  | read16 id =>
    unfold exec execRead16
    refine h.keeps_accept fun c _ hr => ?_
    split
    · exact (hr.readAux _).keeps
    · split <;> exact hr.raise_respond _
  | encodeAndSend =>
    unfold exec execEncodeAndSend
    exact h.keeps_accept fun c _ hr => ((hr.emit _).respond 0).keeps
  | setFrameRate hz =>
    unfold exec execSetFrameRate
    refine h.keeps_accept fun c hc hr => ?_
    split
    · exact keeps_refused _
    · split
      · exact keeps_refused _
      · exact (((hr.emit _).storeCache (hc.of_derivedPart_eq (by rfl))).respond 0).keeps
  | setCaptureMode =>
    unfold exec execSetCaptureMode
    exact h.keeps_accept fun c hc hr =>
      ((((hr.emit _).storeCache (hc.of_derivedPart_eq (by rfl))).storeConfigured).respond 0).keeps
  | setWoi xs ys xe ye =>
    unfold exec execSetWoi
    exact h.keeps_accept fun c hc hr =>
      (((hr.emit _).storeCache (by exact ⟨hc.timeout, rfl, rfl⟩)).respond 0).keeps
  | setItimeInternal ms =>
    unfold exec execSetItimeInternal
    refine h.keeps_accept fun c hc hr => ?_
    split
    · exact keeps_refused _
    · exact (((hr.emit _).storeCache (hc.withItime ms)).respond 0).keeps
  | setItime ms =>
    unfold exec execSetItime
    refine h.keeps_accept fun c hc hr => ?_
    split
    · exact keeps_refused _
    · exact ((((hr.emit _).storeCache (hc.withItime ms)).settle _).respond 0).keeps
  | captureFrames b n =>
    unfold exec execCaptureFrames
    refine h.keeps_accept fun c _ hr => ?_
    split
    · exact keeps_refused _
    next hn =>
      exact ((Running.captureLoop _ _ (hr.withFramelog []) (by omega)).respond 0).keeps
  | captureData b n =>
    unfold exec execCaptureData
    refine h.keeps_accept fun c _ hr => ?_
    split
    · exact (hr.respond 0).keeps
    · split
      · exact keeps_refused _
      next hn => exact (hr.captureBytes (by omega) _).keeps
  | setGain | setXinv | setYinv | setLinerepeat | setRefout | setReset | setSkim | setPower | setCurrent | setBias
  | setBandwidth | setOutputfactor | setItr | setMultiplereadouts | setNondestructive =>
    exact h.keeps_flagSetter fun _ => rfl
  | setPwm v =>
    unfold exec execSetPwm
    exact h.keeps_accept fun c hc hr => hr.pwmBody hc v
  | setCooling v =>
    unfold exec execSetCooling
    exact h.keeps_accept fun c hc hr => (((hr.send _).storeCache (hc.of_derivedPart_eq (by rfl))).respond 0).keeps
  | setImageInvert v =>
    unfold exec execSetImageInvert
    exact h.keeps_accept fun c hc hr => (((hr.send _).storeCache (hc.of_derivedPart_eq (by rfl))).respond 0).keeps
  | setAnalog id v =>
    unfold exec execSetAnalog
    refine h.keeps_accept fun c hc hr => ?_
    split
    · exact hr.raise_respond _
    · split
      · exact hr.pwmBody hc _
      · exact (((hr.emit _).storeCache (hc.of_derivedPart_eq (c.derivedPart_writeMirror _ _))).respond 0).keeps
  | get ix =>
    unfold exec execGet
    refine h.keeps_accept fun c _ hr => ?_
    split
    · exact (hr.respond _).keeps
    · exact hr.raise_respond _
  | getTemperatureAdu =>
    unfold exec execGetTemperatureAdu
    exact h.keeps_accept fun _ _ hr => (hr.readAux _).keeps
  | getTemperatureAdcType =>
    unfold exec execGetTemperatureAdcType
    exact h.keeps_accept fun _ _ hr => (hr.readAux _).keeps
  | openDevice => exact h.keeps_openDevice
  | closeDevice =>
    unfold exec execCloseDevice
    exact h.keeps_accept fun _ _ hr => (Running.respond ⟨hr.inv.destroyCache, rfl, rfl⟩ 0).keeps

end Operations

/-! ### Steps -/

/-- Taking a request from `REQ` leaves the rest of the state. -/
theorem State.fetch_some {s s' : State} {w : ReqWord} (h : s.fetch = some (w, s')) :
    ∃ rest, s.reqs = w :: rest ∧ s' = { s with reqs := rest } := by
  unfold State.fetch at h
  split at h
  · cases h
  next v rest hr => cases h; exact ⟨rest, hr, rfl⟩

theorem Inv.keeps_step {s : State} (h : Inv s) : Keeps s.cfg (step s) := by
  unfold step
  split
  · exact Kept.keeps ⟨h, rfl⟩
  next w s' hf =>
    obtain ⟨rest, -, rfl⟩ := State.fetch_some hf
    have h' : Inv { s with reqs := rest } := { h with }
    split
    · exact keeps_refused _
    next hb =>
      split
      · exact h'.keeps_exec _
      · exact Kept.keeps ⟨h'.answerUndecodable (s.blocked_eq_false_iff.1 (by simpa using hb)), rfl⟩

/-- Settles O49: a step is no request, an undecodable one or an operation, and each keeps the invariant. -/
theorem stepKeepsTheInvariant : Obligations.StepKeepsTheInvariant :=
  fun _ t h ht => h.keeps_step t ht

/-! ### Reset -/

/-- Settles O50. -/
theorem resetHasTheInvariant : Obligations.ResetHasTheInvariant where
  buffer := ⟨.nil, nofun⟩
  timeout := by rintro _ ⟨⟩; exact (Cache.ofDefaults_derived _).timeout
  increments := by rintro _ ⟨⟩; exact (Cache.ofDefaults_derived _).increments
  errReserved := rfl
  rspReserved := by rintro _ ⟨⟩; rfl
  selectors := rfl
  capturing := ⟨nofun, nofun⟩
  silent := fun ho => absurd rfl ho

/-- Settles O51: the bounds are those of the fields' widths. -/
theorem resetLeavesTheStatedValues : Obligations.ResetLeavesTheStatedValues := by
  refine ⟨rfl, rfl, rfl, rfl, rfl, rfl, rfl, rfl, rfl, Cache.ofDefaults State.reset.cfg.defaults, rfl, rfl, ?_⟩
  have hd := Cache.ofDefaults_derived State.reset.cfg.defaults
  exact ⟨hd.timeout, hd.increments.1, hd.increments.2, Nat.le_of_lt_succ (BitVec.isLt _), BitVec.isLt _, BitVec.isLt _,
    BitVec.isLt _, BitVec.isLt _⟩

end Sys2Proof.Machine
end

section
/-! Noninterference (O53). What an operation does, its footprint, is its transactions, its cache write, its capture state and
its selector images. Every action that is not left hanging changes the footprint by a function of the footprint alone, so two
runs of an operation that differ in the environment's answers leave the same one. -/

namespace Sys2Proof.Machine

open Sys2Proof.Config

/-! ### The footprint -/

/-- What of a state may not depend on the environment's answers, and the installation, on which it may. -/
structure Footprint where
  cfg : Params
  xfers : List Xfer
  seq : Nat
  cache : Option Cache
  cstate : CaptureState
  selectors : Byte × Byte × Byte

def State.footprint (s : State) : Footprint where
  cfg := s.cfg
  xfers := s.trace.map Event.xfer
  seq := s.seq
  cache := s.cache
  cstate := s.cstate
  selectors := s.selectors

/-- One more transaction. -/
def Footprint.did (p : Footprint) (x : Xfer) : Footprint := { p with xfers := p.xfers ++ [x], seq := p.seq + 1 }

/-- One more word, which moves the images. -/
def Footprint.sent (p : Footprint) (w : CmdWord) : Footprint :=
  { p.did (.cmd w) with
    selectors := (imageAfter p.cfg.tselBase p.selectors.1 [w], imageAfter p.cfg.aselBase p.selectors.2.1 [w],
      imageAfter p.cfg.auxaBase p.selectors.2.2 [w]) }

theorem State.answered_footprint (s : State) (x : Xfer) (r : ResultClass) :
    (s.answered x r).footprint = s.footprint.did x := by
  simp [State.footprint, Footprint.did, State.selectors]

theorem State.answered_noteSelector_footprint (s : State) (w : CmdWord) (r : ResultClass) :
    (((s.answered (.cmd w) r).raise r).noteSelector w).footprint = s.footprint.sent w := by
  have ha := s.answered_footprint (.cmd w) r
  exact congrArg (fun p : Footprint => { p with selectors := (s.footprint.sent w).selectors }) ha

theorem State.respond_footprint (s : State) (v : Word32) : (s.respond v).footprint = s.footprint := by
  simp [State.footprint]

/-! ### Actions -/

/-- Going from `s` to `u` leaves the sequencer blocked or changes the footprint by `f`. -/
def ActsBy (f : Footprint → Footprint) (s u : State) : Prop :=
  u.outstanding = none → s.outstanding = none ∧ u.footprint = f s.footprint

section Actions

variable {f : Footprint → Footprint} {s u v : State}

/-- What keeps the footprint, and blocks nothing, may follow. -/
theorem ActsBy.followed (h : ActsBy f s u) (ho : v.outstanding = u.outstanding) (hp : v.footprint = u.footprint) :
    ActsBy f s v := by
  unfold ActsBy
  rw [ho, hp]
  exact h

theorem ActsBy.respond (h : ActsBy f s u) (a : Word32) : ActsBy f s (u.respond a) :=
  h.followed (u.respond_outstanding a) (u.respond_footprint a)

theorem actsBy_of_blocked (hb : s.blocked = true) : ActsBy f s s := fun ho => by
  rw [State.blocked_of_idle _ ho] at hb
  cases hb

theorem actsBy_unanswered (x : Xfer) : ActsBy f s (u.unanswered x) := nofun

theorem actsBy_answered (hb : s.blocked = false) (e : Env) (d : Draws) (x : Xfer) (r : ResultClass) :
    ActsBy (·.did x) s ((s.afterTaking e d).answered x r) :=
  fun _ => ⟨s.blocked_eq_false_iff.1 hb, State.answered_footprint _ _ _⟩

theorem State.send_actsBy (s : State) (w : CmdWord) : ActsBy (·.sent w) s (s.send w) := by
  rcases s.send_cases w with ⟨hb, hs⟩ | ⟨-, -, e, d, hs, -⟩ | ⟨hb, a, e, d, -, hs, -⟩ <;> rw [hs]
  · exact actsBy_of_blocked hb
  · exact actsBy_unanswered _
  · exact fun _ => ⟨s.blocked_eq_false_iff.1 hb, State.answered_noteSelector_footprint _ _ _⟩

theorem State.readStatus_actsBy (s : State) : ActsBy (·.did .status) s s.readStatus.1 := by
  rcases s.readStatus_cases with ⟨hb, hs⟩ | ⟨-, -, e, d, hs, -⟩ | ⟨hb, r, e, d, -, hs, -⟩ <;> rw [hs]
  · exact actsBy_of_blocked hb
  · exact actsBy_unanswered _
  · exact (actsBy_answered hb e d _ _).followed rfl rfl

theorem State.bulkRead_actsBy (s : State) (n t : Nat) : ActsBy (·.did (.bulk n t)) s (s.bulkRead n t).1 := by
  rcases s.bulkRead_cases n t with ⟨hb, hs⟩ | ⟨-, -, e, d, hs, -⟩ | ⟨hb, r, e, d, -, hs, -⟩ <;> rw [hs]
  · exact actsBy_of_blocked hb
  · exact actsBy_unanswered _
  · exact actsBy_answered hb e d _ _

theorem State.settle_actsBy (s : State) (c : Cache) :
    ActsBy (·.did (.bulk Config.frameBytes (bulkTimeout c))) s (s.settle c) := by
  have h := s.bulkRead_actsBy Config.frameBytes (bulkTimeout c)
  unfold State.settle
  dsimp only
  split
  · exact h.followed rfl rfl
  · exact h

theorem State.captureFrame_actsBy (s : State) (a t : Nat) :
    ActsBy (·.did (.bulk Config.frameBytes t)) s (s.captureFrame a t) := by
  have h := s.bulkRead_actsBy Config.frameBytes t
  unfold State.captureFrame
  dsimp only
  split
  · exact h.followed rfl rfl
  · exact h

theorem State.captureBytes_actsBy (s : State) (a n t : Nat) :
    ActsBy (·.did (.bulk n t)) s (s.captureBytes a n t) := by
  have h := s.bulkRead_actsBy n t
  unfold State.captureBytes
  dsimp only
  split
  next got _ =>
    have hf : ActsBy (·.did (.bulk n t)) s (((s.bulkRead n t).1.raise got.result).fillRegion a n got) :=
      h.followed rfl rfl
    exact hf.respond _
  · exact h

/-- A guarded action that starts nothing. -/
theorem State.onward_actsBy (s : State) {g : State → State} (ho : (s.onward g).outstanding = s.outstanding)
    (hp : (g s).footprint = f s.footprint) : ActsBy f s (s.onward g) := by
  intro hi
  rw [ho] at hi
  exact ⟨hi, by rw [State.onward_of_idle _ _ hi, hp]⟩

theorem State.storeCache_actsBy (s : State) (c : Cache) :
    ActsBy (fun p => { p with cache := some c }) s (s.storeCache c) :=
  s.onward_actsBy (s.storeCache_outstanding c) rfl

theorem State.storeCstate_actsBy (s : State) (q : CaptureState) :
    ActsBy (fun p => { p with cstate := q }) s (s.storeCstate q) :=
  s.onward_actsBy (s.storeCstate_outstanding q) rfl

end Actions

/-! ### Two runs -/

/-- The installation is no answer of the environment. -/
theorem State.afterTaking_begin_cfg (s : State) (e : Env) (d : Draws) :
    (s.afterTaking e d).begin.cfg = s.begin.cfg := rfl

/-- Two points of two runs: the footprints agree unless one of the runs hangs. -/
def Alike (s t : State) : Prop := s.outstanding = none → t.outstanding = none → t.footprint = s.footprint

section Runs

variable {s t : State}

/-- Doing the same to alike states leaves alike states. -/
theorem Alike.acts (h : Alike s t) {f : Footprint → Footprint} {s' t' : State} (hs : ActsBy f s s')
    (ht : ActsBy f t t') : Alike s' t' := by
  intro is it
  obtain ⟨js, ps⟩ := hs is
  obtain ⟨jt, pt⟩ := ht it
  rw [ps, pt, h js jt]

theorem Alike.begin_afterTaking (s : State) (e : Env) (d : Draws) : Alike s.begin (s.afterTaking e d).begin :=
  fun _ _ => rfl

/-- Answers may differ in their value and in `err`. -/
theorem Alike.respond (h : Alike s t) (v v' : Word32) : Alike (s.respond v) (t.respond v') := by
  unfold Alike
  rw [State.respond_outstanding, State.respond_outstanding, State.respond_footprint, State.respond_footprint]
  exact h

theorem Alike.send (h : Alike s t) (w : CmdWord) : Alike (s.send w) (t.send w) :=
  h.acts (s.send_actsBy w) (t.send_actsBy w)

theorem Alike.emit (ws : List CmdWord) : ∀ {s t : State}, Alike s t → Alike (s.emit ws) (t.emit ws) := by
  induction ws with
  | nil => exact fun h => h
  | cons w ws ih => exact fun h => ih (h.send w)

theorem Alike.readStatus (h : Alike s t) : Alike s.readStatus.1 t.readStatus.1 :=
  h.acts s.readStatus_actsBy t.readStatus_actsBy

theorem Alike.settle (h : Alike s t) (c : Cache) : Alike (s.settle c) (t.settle c) :=
  h.acts (s.settle_actsBy c) (t.settle_actsBy c)

theorem Alike.storeCache (h : Alike s t) (c : Cache) : Alike (s.storeCache c) (t.storeCache c) :=
  h.acts (s.storeCache_actsBy c) (t.storeCache_actsBy c)

theorem Alike.storeCstate (h : Alike s t) (q : CaptureState) : Alike (s.storeCstate q) (t.storeCstate q) :=
  h.acts (s.storeCstate_actsBy q) (t.storeCstate_actsBy q)

theorem Alike.captureLoop (m n : Nat) : ∀ {s t : State} {a : Nat}, Alike s t →
    Alike (s.captureLoop m n a) (t.captureLoop m n a) := by
  induction n with
  | zero => exact fun h => h
  | succ n ih => exact fun {s t a} h => ih (h.acts (s.captureFrame_actsBy a m) (t.captureFrame_actsBy a m))

theorem Alike.readAux (h : Alike s t) (hc : t.cfg = s.cfg) (a : Byte) : Alike (s.readAux a) (t.readAux a) := by
  unfold State.readAux
  rw [hc]
  exact ((((h.send _).send _).readStatus.send _).send _).respond _ _

theorem Alike.encodeAndSend (h : Alike s t) (hc : t.cfg = s.cfg) (flags : Cache) :
    Alike (s.encodeAndSend flags) (t.encodeAndSend flags) := by
  unfold State.encodeAndSend
  rw [hc]
  exact h.emit _

theorem Alike.pwmBody (h : Alike s t) (hc : t.cfg = s.cfg) (c : Cache) (v : Int) :
    Alike (s.pwmBody c v) (t.pwmBody c v) := by
  unfold State.pwmBody
  rw [hc]
  exact ((h.emit _).storeCache _).respond 0 0

theorem Alike.withFramelog (h : Alike s t) (l : List ResultClass) :
    Alike { s with framelog := l } { t with framelog := l } := h

theorem Alike.destroyCache (h : Alike s t) : Alike s.destroyCache t.destroyCache :=
  h.acts (f := fun p => { p with cache := none }) (fun ho => ⟨ho, rfl⟩) (fun ho => ⟨ho, rfl⟩)

/-- Raising an error and answering. -/
theorem Alike.raise_respond (h : Alike s t) (r : ResultClass) :
    Alike ((s.raise r).respond 0) ((t.raise r).respond 0) :=
  Alike.respond (s := s.raise r) (t := t.raise r) h 0 0

end Runs

/-! ### Operations -/

/-- Where both are next states, they are alike. -/
def AlikeOutcomes (o o' : Host.Outcome State Fault Refusal) : Prop :=
  ∀ t t', o = .next t → o' = .next t' → Alike t t'

theorem Alike.outcomes {s t : State} (h : Alike s t) : AlikeOutcomes (.next s) (.next t) := by
  rintro _ _ ⟨⟩ ⟨⟩
  exact h

theorem alikeOutcomes_refused (r r' : Refusal) : AlikeOutcomes (.refused r) (.refused r') := by
  rintro _ _ ⟨⟩

section Operations

variable (s : State) (e : Env) (d : Draws)

/-- An operation's two runs are alike if those of its body are. -/
theorem alike_accept {body : Cache → State → Host.Outcome State Fault Refusal}
    (hb : ∀ c, Alike s.begin (s.afterTaking e d).begin →
      AlikeOutcomes (body c s.begin) (body c (s.afterTaking e d).begin)) :
    AlikeOutcomes (s.accept body) ((s.afterTaking e d).accept body) := by
  intro t t' ht ht'
  obtain ⟨c, ⟨-, hc⟩, ht⟩ := State.accept_next ht
  obtain ⟨c', ⟨-, hc'⟩, ht'⟩ := State.accept_next ht'
  have hcc : c' = c := Option.some.inj (hc'.symm.trans hc)
  subst hcc
  exact hb c' (Alike.begin_afterTaking s e d) t t' ht ht'

theorem alike_flagSetter (set : Cache → Cache) :
    AlikeOutcomes (s.flagSetter set) ((s.afterTaking e d).flagSetter set) :=
  alike_accept s e d fun c h =>
    ((((h.storeCache _).encodeAndSend (by rw [State.storeCache_cfg, State.storeCache_cfg]; rfl) _).settle _).respond
      0 0).outcomes

/-- Two runs of an operation from states that differ in the environment's answers are alike. -/
theorem alike_exec (i : Instr) (hi : i ≠ .openDevice) : AlikeOutcomes (exec i s) (exec i (s.afterTaking e d)) := by
  cases i with
  | writeBit id b =>
    unfold exec execWriteBit
    refine alike_accept s e d fun c h => ?_
    rw [State.afterTaking_begin_cfg]
    cases bitIndex s.begin.cfg id with
    | none => exact (h.raise_respond _).outcomes
    | some idx => exact ((h.send _).respond 0 0).outcomes
  | write16 id v =>
    unfold exec execWrite16
    refine alike_accept s e d fun c h => ?_
    cases reg16Of id with
    | none => exact (h.raise_respond _).outcomes
    | some r => exact ((h.emit _).respond 0 0).outcomes
  | write32 id v =>
    unfold exec execWrite32
    refine alike_accept s e d fun c h => ?_
    split_ifs
    · exact ((h.emit _).respond 0 0).outcomes
    · exact (h.raise_respond _).outcomes
  | read16 id =>
    unfold exec execRead16
    refine alike_accept s e d fun c h => ?_
    rw [State.afterTaking_begin_cfg]
    cases auxAddress s.begin.cfg id with
    | some a => exact (h.readAux rfl a).outcomes
    | none => dsimp only; split_ifs <;> exact (h.raise_respond _).outcomes
  | encodeAndSend =>
    unfold exec execEncodeAndSend
    exact alike_accept s e d fun c h => ((h.encodeAndSend rfl c).respond 0 0).outcomes
  | setFrameRate hz =>
    unfold exec execSetFrameRate
    refine alike_accept s e d fun c h => ?_
    split_ifs
    · exact alikeOutcomes_refused _ _
    · exact alikeOutcomes_refused _ _
    · exact (((h.emit _).storeCache _).respond 0 0).outcomes
  | setCaptureMode =>
    unfold exec execSetCaptureMode
    exact alike_accept s e d fun c h => ((((h.emit _).storeCache _).storeCstate _).respond 0 0).outcomes
  | setWoi xs ys xe ye =>
    unfold exec execSetWoi
    exact alike_accept s e d fun c h => (((h.emit _).storeCache _).respond 0 0).outcomes
  | setItimeInternal ms =>
    unfold exec execSetItimeInternal
    refine alike_accept s e d fun c h => ?_
    split_ifs
    · exact alikeOutcomes_refused _ _
    · exact (((h.emit _).storeCache _).respond 0 0).outcomes
  | setItime ms =>
    unfold exec execSetItime
    refine alike_accept s e d fun c h => ?_
    split_ifs
    · exact alikeOutcomes_refused _ _
    · exact ((((h.emit _).storeCache _).settle _).respond 0 0).outcomes
  | captureFrames b n =>
    unfold exec execCaptureFrames
    refine alike_accept s e d fun c h => ?_
    split_ifs
    · exact alikeOutcomes_refused _ _
    · exact ((Alike.captureLoop _ _ (h.withFramelog [])).respond 0 0).outcomes
  | captureData b n =>
    unfold exec execCaptureData
    refine alike_accept s e d fun c h => ?_
    split_ifs
    · exact (h.respond 0 0).outcomes
    · exact alikeOutcomes_refused _ _
    · exact (h.acts (State.captureBytes_actsBy _ _ _ _) (State.captureBytes_actsBy _ _ _ _)).outcomes
  | setGain | setXinv | setYinv | setLinerepeat | setRefout | setReset | setSkim | setPower | setCurrent | setBias
  | setBandwidth | setOutputfactor | setItr | setMultiplereadouts | setNondestructive =>
    exact alike_flagSetter s e d _
  | setPwm v =>
    unfold exec execSetPwm
    exact alike_accept s e d fun c h => (h.pwmBody rfl c v).outcomes
  | setCooling v =>
    unfold exec execSetCooling
    exact alike_accept s e d fun c h => (((h.send _).storeCache _).respond 0 0).outcomes
  | setImageInvert v =>
    unfold exec execSetImageInvert
    exact alike_accept s e d fun c h => (((h.send _).storeCache _).respond 0 0).outcomes
  | setAnalog id v =>
    unfold exec execSetAnalog
    refine alike_accept s e d fun c h => ?_
    cases reg16Of id with
    | none => exact (h.raise_respond _).outcomes
    | some r =>
      dsimp only
      split_ifs
      · exact (h.pwmBody rfl c _).outcomes
      · exact (((h.emit _).storeCache _).respond 0 0).outcomes
  | get ix =>
    unfold exec execGet
    refine alike_accept s e d fun c h => ?_
    cases c.read ix with
    | some v => exact (h.respond v v).outcomes
    | none => exact (h.raise_respond _).outcomes
  | getTemperatureAdu =>
    unfold exec execGetTemperatureAdu
    exact alike_accept s e d fun c h => (h.readAux rfl _).outcomes
  | getTemperatureAdcType =>
    unfold exec execGetTemperatureAdcType
    exact alike_accept s e d fun c h => (h.readAux rfl _).outcomes
  | openDevice => exact absurd rfl hi
  | closeDevice =>
    unfold exec execCloseDevice
    exact alike_accept s e d fun c h => (h.destroyCache.respond 0 0).outcomes

end Operations

/-- Settles O53: the footprints of the two runs are equal. -/
theorem transactionsDoNotDependOnAnswers : Obligations.TransactionsDoNotDependOnAnswers := by
  intro s t t' i e d hi h h' ht ht'
  have hp : t'.footprint = t.footprint := alike_exec s e d i hi t t' h h' ht ht'
  simp only [State.footprint, Footprint.mk.injEq] at hp
  exact hp.2

end Sys2Proof.Machine
end

section
/-! The request port and the command words (20_memory): a built word parses back to its space and payload (O20), a step runs
the operation its request decodes to (O5), and nothing is taken while a transaction is outstanding (O46). -/

namespace Sys2Proof.Machine

open Sys2Proof.Config

/-! ### Reading a built word back -/

/-- Byte `k` of a 32-bit value, by arithmetic (20_memory R67). -/
theorem byteOf_toNat (k : Nat) (v : Word32) : (byteOf k v).toNat = v.toNat / 2 ^ (8 * k) % 256 := by
  unfold byteOf
  rw [BitVec.extractLsb'_toNat, Nat.shiftRight_eq_div_pow]

/-- A word of a space whose number is base plus offset parses to that space and offset. -/
theorem parseWord_of_toNat {P : Params} (h : P.Admissible) {w : CmdWord} {g : Space} {n : Nat}
    (hg : g.holds P w = true) (hw : w.toNat = (g.base P).toNat + n) : parseWord P w = some (g, n) := by
  rw [parseWord_of_holds h hg, hw, Nat.add_sub_cancel_left]

/-- A base is aligned to its space's size, stated with the size as a numeral. -/
theorem base_aligned {P : Params} (h : P.Admissible) {g : Space} {n : Nat} (hs : g.size = n) :
    (g.base P).toNat % n = 0 :=
  hs ▸ admissible_aligned h g

/-- Settles O20: each built word lies in its space, at base plus payload. -/
theorem commandWordDeterminesSpaceAndPayload : Obligations.CommandWordDeterminesSpaceAndPayload := by
  intro P g h
  refine ⟨fun hs p => ?eight, fun hs k v hk => ?value32, fun hs p => ?twelve⟩
  case eight => exact parseWord_of_toNat h (w8_holds h g p hs) (w8_toNat _ _ (base_aligned h hs))
  case value32 =>
    refine parseWord_of_toNat h (v32Word_holds h g k v hk hs) ?_
    rw [v32Word_toNat _ _ _ hk (base_aligned h hs), byteOf_toNat, Nat.add_assoc]
  case twelve => exact parseWord_of_toNat h (w12_holds h g p hs) (w12_toNat _ _ (base_aligned h hs))

/-! ### Taking a request -/

theorem State.blocked_of_outstanding {s : State} {o : Outstanding} (h : s.outstanding = some o) :
    s.blocked = true := by
  simp [State.blocked, h]

theorem State.fetch_cons {s : State} {w : ReqWord} {rest : List ReqWord} (h : s.reqs = w :: rest) :
    s.fetch = some (w, { s with reqs := rest }) := by
  simp [State.fetch, h]

/-- Settles O5: the idle branch of a step with a request that decodes. -/
theorem stepRunsDecodedRequest : Obligations.StepRunsDecodedRequest := by
  intro s w rest i hr hi hd
  simp [step, State.fetch_cons hr, State.blocked_of_idle s hi, hd]

/-! ### A second request -/

/-- Every operation, `OPEN` included, opens with the guard against a second request (20_memory R80). -/
theorem exec_of_blocked {s : State} (h : s.blocked = true) (i : Instr) :
    exec i s = .refused .requestWhileBusy := by
  cases i <;> exact if_pos h

/-- A step guards before it decodes, so a word that decodes to nothing is refused too. -/
theorem step_of_blocked_request {s : State} {w : ReqWord} {rest : List ReqWord} (h : s.blocked = true)
    (hr : s.reqs = w :: rest) : step s = .refused .requestWhileBusy := by
  simp [step, State.fetch_cons hr, h]

/-- Settles O46: the guards of the operations and of the step refuse; that a request present while an operation hangs is a
second one is the model's reading (notes/assumptions/4). -/
theorem requestWhileBlockedIsRefused : Obligations.RequestWhileBlockedIsRefused := by
  intro s o w rest i ho
  have hb := State.blocked_of_outstanding ho
  exact ⟨exec_of_blocked hb i, step_of_blocked_request hb⟩

end Sys2Proof.Machine
end

section
/-! The request word (30_encoding R91 to R93, R96): the decoder and the encoder are inverse (O1, O2), the decoder accepts
the words that match a row of the opcode table and no others (O3, O4), and a step answers every other word `NotSupported`
(O6, O7). All of it goes through one description of the decoder: a word with the opcode of an operation `i` decodes, when
its reserved bits are clear, to `i.readFrom`, the operation of `i`'s row with the operands the word holds. -/

namespace Sys2Proof

/-! ### The fields of a request word -/

theorem reqOp_append (op id : Byte) (arg : BitVec 64) : reqOp (op ++ id ++ arg) = op := by
  unfold reqOp
  rw [BitVec.extractLsb'_append_eq_of_le (by decide)]
  exact BitVec.extractLsb'_append_eq_left

theorem reqId_append (op id : Byte) (arg : BitVec 64) : reqId (op ++ id ++ arg) = id := by
  unfold reqId
  rw [BitVec.extractLsb'_append_eq_of_le (by decide)]
  exact BitVec.extractLsb'_append_eq_right

theorem reqArg_append (op id : Byte) (arg : BitVec 64) : reqArg (op ++ id ++ arg) = arg :=
  BitVec.extractLsb'_append_eq_right

/-- The three fields are the whole word (R91). -/
theorem append_fields (w : ReqWord) : reqOp w ++ reqId w ++ reqArg w = w := by
  unfold reqOp reqId reqArg
  rw [BitVec.extractLsb'_append_extractLsb'_eq_extractLsb' (by decide),
    BitVec.extractLsb'_append_extractLsb'_eq_extractLsb' (by decide)]
  exact BitVec.extractLsb'_eq_self

/-- A word is given by its three fields. -/
theorem append_fields_eq_iff (op id : Byte) (arg : BitVec 64) (w : ReqWord) :
    op ++ id ++ arg = w ↔ op = reqOp w ∧ id = reqId w ∧ arg = reqArg w := by
  constructor
  · rintro rfl
    exact ⟨(reqOp_append _ _ _).symm, (reqId_append _ _ _).symm, (reqArg_append _ _ _).symm⟩
  · rintro ⟨rfl, rfl, rfl⟩
    exact append_fields w

@[simp] theorem reqOp_encode (i : Instr) : reqOp (encode i) = i.opcode := reqOp_append _ _ _
@[simp] theorem reqId_encode (i : Instr) : reqId (encode i) = i.idField := reqId_append _ _ _
@[simp] theorem reqArg_encode (i : Instr) : reqArg (encode i) = i.argField := reqArg_append _ _ _

/-! ### Matching a row -/

/-- The mask of a format, field by field: the opcode, the reserved `id`, the reserved upper part of `arg` (R92). -/
theorem mask_fields (f : Format) : Laws.TableRow.mask f
    = BitVec.allOnes 8 ++ (if f.idReserved then BitVec.allOnes 8 else 0) ++ (BitVec.allOnes 64 <<< f.argBits) := by
  cases f <;> rfl

theorem ushiftRight_eq_zero_iff {m : Nat} (a : BitVec m) (n : Nat) :
    a >>> n = 0#m ↔ ∀ k, n ≤ k → a.getLsbD k = false := by
  constructor
  · intro h k hk
    rw [← Nat.add_sub_cancel' hk, ← BitVec.getLsbD_ushiftRight, h, BitVec.getLsbD_zero]
  · intro h
    apply BitVec.eq_of_getLsbD_eq
    intro k _
    rw [BitVec.getLsbD_ushiftRight, h _ (Nat.le_add_right n k), BitVec.getLsbD_zero]

/-- Masking with the bits from `n` up leaves nothing exactly when those bits are zero. -/
theorem and_highMask_eq_zero_iff {m : Nat} (a : BitVec m) (n : Nat) :
    a &&& (BitVec.allOnes m <<< n) = 0#m ↔ a >>> n = 0#m := by
  rw [ushiftRight_eq_zero_iff, BitVec.eq_of_getLsbD_eq_iff]
  simp only [BitVec.getLsbD_and, BitVec.getLsbD_shiftLeft, BitVec.getLsbD_allOnes, BitVec.getLsbD_zero]
  constructor
  · intro h k hk
    by_cases hm : k < m
    · simpa [hm, Nat.not_lt.2 hk, Nat.sub_lt_of_lt hm] using h k hm
    · exact BitVec.getLsbD_of_ge a k (Nat.not_lt.1 hm)
  · intro h k _
    by_cases hk : k < n
    · simp [hk]
    · simp [h k (Nat.not_lt.1 hk)]

/-- No reserved bit is set: a reserved `id` is zero, and so is `arg` above the format's bits (R92). -/
theorem reservedClear_iff (f : Format) (w : ReqWord) :
    f.reservedClear w = true ↔ (f.idReserved = true → reqId w = 0#8) ∧ reqArg w >>> f.argBits = 0#64 := by
  cases hr : f.idReserved <;> simp [Format.reservedClear, hr]

/-- The `match` of a row, field by field. -/
theorem opcode_append_zero (op : Byte) : op ++ 0#72 = op ++ 0#8 ++ 0#64 := by
  rw [BitVec.append_assoc, BitVec.cast_eq]
  congr 1

/-- A word matches the row of opcode `op` and format `f` exactly when it has that opcode and no reserved bit set. -/
theorem and_mask_eq_iff (op : Byte) (f : Format) (w : ReqWord) :
    w &&& Laws.TableRow.mask f = op ++ 0#72 ↔ reqOp w = op ∧ f.reservedClear w = true := by
  have hw : w &&& Laws.TableRow.mask f = reqOp w ++ (reqId w &&& if f.idReserved then BitVec.allOnes 8 else 0)
      ++ (reqArg w &&& (BitVec.allOnes 64 <<< f.argBits)) := by
    conv_lhs => rw [mask_fields, ← append_fields w, BitVec.and_append, BitVec.and_append, BitVec.and_allOnes]
  rw [hw, opcode_append_zero, append_fields_eq_iff, reqOp_append, reqId_append, reqArg_append, and_highMask_eq_zero_iff,
    reservedClear_iff]
  cases f.idReserved
  · simp
  · simp only [if_true, BitVec.and_allOnes, true_imp_iff]

/-! ### The operation of a row, read from a word -/

/-- The operation of `i`'s row with the operands that `w` holds (R92). -/
def Instr.readFrom (w : ReqWord) : Instr → Instr
  | .writeBit _ _ => .writeBit (reqId w) (argBit w)
  | .write16 _ _ => .write16 (reqId w) (argHalf w)
  | .write32 _ _ => .write32 (reqId w) (argWord w)
  | .read16 _ => .read16 (reqId w)
  | .encodeAndSend => .encodeAndSend
  | .setFrameRate _ => .setFrameRate (argHalf w).toNat
  | .setCaptureMode => .setCaptureMode
  | .setWoi _ _ _ _ => .setWoi ((reqArg w).extractLsb' 48 16) ((reqArg w).extractLsb' 32 16)
      ((reqArg w).extractLsb' 16 16) ((reqArg w).extractLsb' 0 16)
  | .setItimeInternal _ => .setItimeInternal (argWord w).toNat
  | .setItime _ => .setItime (argWord w).toNat
  | .captureFrames _ _ => .captureFrames (argHigh w).toNat (argWord w).toNat
  | .captureData _ _ => .captureData (argHigh w).toNat (argWord w).toNat
  | .setGain _ => .setGain (argBit w)
  | .setXinv _ => .setXinv (argBit w)
  | .setYinv _ => .setYinv (argBit w)
  | .setLinerepeat _ => .setLinerepeat (argBit w)
  | .setRefout _ => .setRefout (argBit w)
  | .setReset _ => .setReset (argBit w)
  | .setSkim _ => .setSkim (argBit w)
  | .setPower _ => .setPower (argWord w)
  | .setCurrent _ => .setCurrent (argWord w)
  | .setBias _ => .setBias (argWord w)
  | .setBandwidth _ => .setBandwidth (argWord w)
  | .setOutputfactor _ => .setOutputfactor (argWord w)
  | .setItr _ => .setItr (argBit w)
  | .setMultiplereadouts _ => .setMultiplereadouts (argBit w)
  | .setNondestructive _ => .setNondestructive (argBit w)
  | .setPwm _ => .setPwm (argWord w).toInt
  | .setCooling _ => .setCooling (argBit w)
  | .setImageInvert _ => .setImageInvert (argBit w)
  | .setAnalog _ _ => .setAnalog (reqId w) (argHalf w)
  | .get _ => .get (reqId w)
  | .getTemperatureAdu => .getTemperatureAdu
  | .getTemperatureAdcType => .getTemperatureAdcType
  | .openDevice => .openDevice
  | .closeDevice => .closeDevice

@[simp] theorem Instr.readFrom_opcode (w : ReqWord) (i : Instr) : (i.readFrom w).opcode = i.opcode := by
  cases i <;> rfl

@[simp] theorem Instr.readFrom_format (w : ReqWord) (i : Instr) : (i.readFrom w).format = i.format := by
  cases i <;> rfl

/-- What a word holds fits the fields it is read from. -/
theorem Instr.readFrom_wellFormed (w : ReqWord) (i : Instr) : (i.readFrom w).WellFormed = true := by
  have half := (argHalf w).isLt
  have word := (argWord w).isLt
  have high := (argHigh w).isLt
  have low := BitVec.le_toInt (argWord w)
  have up := BitVec.toInt_lt (x := argWord w)
  cases i with
  | setFrameRate => exact decide_eq_true half
  | setItimeInternal | setItime => exact decide_eq_true word
  | captureFrames | captureData => exact Bool.and_eq_true_iff.2 ⟨decide_eq_true high, decide_eq_true word⟩
  | setPwm => exact Bool.and_eq_true_iff.2 ⟨decide_eq_true low, decide_eq_true up⟩
  | _ => rfl

/-- The decoder's row for the opcode of `i` (R96). -/
theorem decode_of_opcode {w : ReqWord} {i : Instr} (h : reqOp w = i.opcode) :
    decode w = decodeAs i.format w (i.readFrom w) := by
  unfold decode
  rw [h]
  cases i <;> rfl


/-! ### Encoding what was read, reading what was encoded -/

theorem eq_setWidth_of_ushiftRight_eq_zero {a : BitVec 64} {n : Nat} (h : a >>> n = 0#64) :
    (a.extractLsb' 0 n).setWidth 64 = a := by
  rw [ushiftRight_eq_zero_iff] at h
  apply BitVec.eq_of_getLsbD_eq
  intro k hk
  rw [BitVec.getLsbD_setWidth, BitVec.getLsbD_extractLsb', Nat.zero_add]
  by_cases hn : k < n
  · simp [hk, hn]
  · simp [h k (Nat.not_lt.1 hn)]

theorem bitArg_argBit {w : ReqWord} (h : reqArg w >>> 1 = 0#64) : bitArg (argBit w) = reqArg w := by
  refine Eq.trans ?_ (eq_setWidth_of_ushiftRight_eq_zero h)
  unfold bitArg argBit
  congr 1
  apply BitVec.eq_of_getLsbD_eq
  intro k hk
  obtain rfl : k = 0 := by omega
  simp

theorem argHigh_append_argWord (w : ReqWord) : argHigh w ++ argWord w = reqArg w := by
  unfold argHigh argWord
  rw [BitVec.extractLsb'_append_extractLsb'_eq_extractLsb' (by decide)]
  exact BitVec.extractLsb'_eq_self

/-- Reading keeps the register id or cache index, and the reserved zero. -/
theorem Instr.readFrom_idField {w : ReqWord} {i : Instr} (h : i.format.reservedClear w = true) :
    (i.readFrom w).idField = reqId w := by
  have hz : i.format.idReserved = true → reqId w = 0#8 := ((reservedClear_iff _ _).1 h).1
  cases i with
  | writeBit | write16 | write32 | read16 | setAnalog | get => rfl
  | _ => exact (hz rfl).symm

/-- Reading drops no set bit of `arg` (R92, R93). -/
theorem Instr.readFrom_argField {w : ReqWord} {i : Instr} (h : reqArg w >>> i.format.argBits = 0#64) :
    (i.readFrom w).argField = reqArg w := by
  cases i with
  | read16 | get | encodeAndSend | setCaptureMode | getTemperatureAdu | getTemperatureAdcType | openDevice
  | closeDevice =>
    exact ((BitVec.ushiftRight_zero _).symm.trans h).symm
  | writeBit | setGain | setXinv | setYinv | setLinerepeat | setRefout | setReset | setSkim | setItr
  | setMultiplereadouts | setNondestructive | setCooling | setImageInvert =>
    exact bitArg_argBit h
  | write16 | setAnalog | write32 | setPower | setCurrent | setBias | setBandwidth | setOutputfactor =>
    exact eq_setWidth_of_ushiftRight_eq_zero h
  | setFrameRate | setItimeInternal | setItime =>
    simp only [readFrom, argField, BitVec.ofNat_toNat, BitVec.setWidth_eq]
    exact eq_setWidth_of_ushiftRight_eq_zero h
  | setPwm =>
    simp only [readFrom, argField, BitVec.ofInt_toInt]
    exact eq_setWidth_of_ushiftRight_eq_zero h
  | captureFrames | captureData =>
    simp only [readFrom, argField, BitVec.ofNat_toNat, BitVec.setWidth_eq]
    exact argHigh_append_argWord w
  | setWoi =>
    simp only [readFrom, argField]
    rw [BitVec.extractLsb'_append_extractLsb'_eq_extractLsb' (by decide),
      BitVec.extractLsb'_append_extractLsb'_eq_extractLsb' (by decide),
      BitVec.extractLsb'_append_extractLsb'_eq_extractLsb' (by decide)]
    exact BitVec.extractLsb'_eq_self

/-- A word with the opcode of a row and no reserved bit set is the encoding of what is read from it. -/
theorem encode_readFrom {w : ReqWord} {i : Instr} (ho : reqOp w = i.opcode) (h : i.format.reservedClear w = true) :
    encode (i.readFrom w) = w := by
  obtain ⟨-, harg⟩ := (reservedClear_iff _ _).1 h
  have hop : (i.readFrom w).opcode = reqOp w := by rw [i.readFrom_opcode, ho]
  exact (append_fields_eq_iff _ _ _ _).2 ⟨hop, Instr.readFrom_idField h, Instr.readFrom_argField harg⟩

theorem argBit_encode {i : Instr} {d : Bool} (h : i.argField = bitArg d) : argBit (encode i) = d := by
  rw [argBit, reqArg_encode, h]
  cases d <;> rfl

theorem argHalf_encode {i : Instr} {v : Half} (h : i.argField = v.setWidth 64) : argHalf (encode i) = v := by
  rw [argHalf, reqArg_encode, h, BitVec.extractLsb'_setWidth_of_le (by decide), BitVec.extractLsb'_eq_self]

theorem argWord_encode {i : Instr} {v : Word32} (h : i.argField = v.setWidth 64) : argWord (encode i) = v := by
  rw [argWord, reqArg_encode, h, BitVec.extractLsb'_setWidth_of_le (by decide), BitVec.extractLsb'_eq_self]

theorem argHigh_encode {i : Instr} {hi lo : Word32} (h : i.argField = hi ++ lo) : argHigh (encode i) = hi := by
  rw [argHigh, reqArg_encode, h]
  exact BitVec.extractLsb'_append_eq_left

theorem argLow_encode {i : Instr} {hi lo : Word32} (h : i.argField = hi ++ lo) : argWord (encode i) = lo := by
  rw [argWord, reqArg_encode, h]
  exact BitVec.extractLsb'_append_eq_right

/-- The four bounds of format G, the first most significant (R92). -/
theorem extract_halves (a b c d : Half) :
    (a ++ b ++ c ++ d).extractLsb' 48 16 = a ∧ (a ++ b ++ c ++ d).extractLsb' 32 16 = b ∧
    (a ++ b ++ c ++ d).extractLsb' 16 16 = c ∧ (a ++ b ++ c ++ d).extractLsb' 0 16 = d := by
  refine ⟨?_, ?_, ?_, BitVec.extractLsb'_append_eq_right⟩
  · rw [BitVec.extractLsb'_append_eq_of_le (by decide), BitVec.extractLsb'_append_eq_of_le (by decide)]
    exact BitVec.extractLsb'_append_eq_left
  · rw [BitVec.extractLsb'_append_eq_of_le (by decide), BitVec.extractLsb'_append_eq_of_le (by decide)]
    exact BitVec.extractLsb'_append_eq_right
  · rw [BitVec.extractLsb'_append_eq_of_le (by decide)]
    exact BitVec.extractLsb'_append_eq_right

/-- Every operand that fits its field is read back. -/
theorem readFrom_encode {i : Instr} (h : i.WellFormed = true) : i.readFrom (encode i) = i := by
  cases i with
  | encodeAndSend | setCaptureMode | getTemperatureAdu | getTemperatureAdcType | openDevice | closeDevice => rfl
  | read16 id | get id => rw [Instr.readFrom, reqId_encode]; rfl
  | writeBit id d => rw [Instr.readFrom, reqId_encode, argBit_encode rfl]; rfl
  | setGain v | setXinv v | setYinv v | setLinerepeat v | setRefout v | setReset v | setSkim v | setItr v
  | setMultiplereadouts v | setNondestructive v | setCooling v | setImageInvert v =>
    rw [Instr.readFrom, argBit_encode rfl]
  | write16 id v | setAnalog id v => rw [Instr.readFrom, reqId_encode, argHalf_encode rfl]; rfl
  | write32 id v => rw [Instr.readFrom, reqId_encode, argWord_encode rfl]; rfl
  | setPower v | setCurrent v | setBias v | setBandwidth v | setOutputfactor v =>
    rw [Instr.readFrom, argWord_encode rfl]
  | setFrameRate hz =>
    have hz16 : hz < 2 ^ 16 := of_decide_eq_true h
    rw [Instr.readFrom, argHalf_encode rfl, BitVec.toNat_ofNat, Nat.mod_eq_of_lt hz16]
  | setItimeInternal ms | setItime ms =>
    have ms32 : ms < 2 ^ 32 := of_decide_eq_true h
    rw [Instr.readFrom, argWord_encode rfl, BitVec.toNat_ofNat, Nat.mod_eq_of_lt ms32]
  | captureFrames buf n | captureData buf n =>
    obtain ⟨hb, hn⟩ := Bool.and_eq_true_iff.1 h
    have hb32 : buf < 2 ^ 32 := of_decide_eq_true hb
    have hn32 : n < 2 ^ 32 := of_decide_eq_true hn
    rw [Instr.readFrom, argHigh_encode rfl, argLow_encode rfl, BitVec.toNat_ofNat, BitVec.toNat_ofNat,
      Nat.mod_eq_of_lt hb32, Nat.mod_eq_of_lt hn32]
  | setPwm v =>
    obtain ⟨hl, hu⟩ := Bool.and_eq_true_iff.1 h
    rw [Instr.readFrom, argWord_encode rfl,
      BitVec.toInt_ofInt_eq_self (by decide) (of_decide_eq_true hl) (of_decide_eq_true hu)]
  | setWoi xs ys xe ye =>
    obtain ⟨hxs, hys, hxe, hye⟩ := extract_halves xs ys xe ye
    rw [Instr.readFrom, reqArg_encode]
    exact congr (congr (congr (congrArg Instr.setWoi hxs) hys) hxe) hye

/-! ### The round trips -/

/-- The word of every operation fits its row of the opcode table: the model's lemmas of each constructor, together. -/
theorem encode_fits_row : ∀ i : Instr, Laws.TableRow.Statement i
  | .writeBit id d => Laws.TableRow.writeBit id d
  | .write16 id v => Laws.TableRow.write16 id v
  | .write32 id v => Laws.TableRow.write32 id v
  | .read16 id => Laws.TableRow.read16 id
  | .encodeAndSend => Laws.TableRow.encodeAndSend
  | .setFrameRate hz => Laws.TableRow.setFrameRate hz
  | .setCaptureMode => Laws.TableRow.setCaptureMode
  | .setWoi xs ys xe ye => Laws.TableRow.setWoi xs ys xe ye
  | .setItimeInternal ms => Laws.TableRow.setItimeInternal ms
  | .setItime ms => Laws.TableRow.setItime ms
  | .captureFrames buf n => Laws.TableRow.captureFrames buf n
  | .captureData buf n => Laws.TableRow.captureData buf n
  | .setGain v => Laws.TableRow.setGain v
  | .setXinv v => Laws.TableRow.setXinv v
  | .setYinv v => Laws.TableRow.setYinv v
  | .setLinerepeat v => Laws.TableRow.setLinerepeat v
  | .setRefout v => Laws.TableRow.setRefout v
  | .setReset v => Laws.TableRow.setReset v
  | .setSkim v => Laws.TableRow.setSkim v
  | .setPower v => Laws.TableRow.setPower v
  | .setCurrent v => Laws.TableRow.setCurrent v
  | .setBias v => Laws.TableRow.setBias v
  | .setBandwidth v => Laws.TableRow.setBandwidth v
  | .setOutputfactor v => Laws.TableRow.setOutputfactor v
  | .setItr v => Laws.TableRow.setItr v
  | .setMultiplereadouts v => Laws.TableRow.setMultiplereadouts v
  | .setNondestructive v => Laws.TableRow.setNondestructive v
  | .setPwm v => Laws.TableRow.setPwm v
  | .setCooling v => Laws.TableRow.setCooling v
  | .setImageInvert v => Laws.TableRow.setImageInvert v
  | .setAnalog id v => Laws.TableRow.setAnalog id v
  | .get ix => Laws.TableRow.get ix
  | .getTemperatureAdu => Laws.TableRow.getTemperatureAdu
  | .getTemperatureAdcType => Laws.TableRow.getTemperatureAdcType
  | .openDevice => Laws.TableRow.openDevice
  | .closeDevice => Laws.TableRow.closeDevice

/-- The encoder sets no reserved bit. -/
theorem encode_reservedClear (i : Instr) : i.format.reservedClear (encode i) = true :=
  ((and_mask_eq_iff _ _ _).1 (encode_fits_row i)).2

/-- A word with the opcode of a row and no reserved bit set decodes to what is read from it. -/
theorem decode_of_reservedClear {w : ReqWord} {i : Instr} (ho : reqOp w = i.opcode)
    (hc : i.format.reservedClear w = true) : decode w = .ok (i.readFrom w) := by
  rw [decode_of_opcode ho, decodeAs, if_pos hc]

/-- Settles O1: the word of `i` has the opcode of `i` and no reserved bit set, and every operand is read back. -/
theorem decodeInvertsEncode : Obligations.DecodeInvertsEncode := by
  intro i hi
  rw [decode_of_reservedClear (reqOp_encode i) (encode_reservedClear i), readFrom_encode hi]

/-! ### The table -/

/-- One operation for each row of the opcode table, in its order. -/
def opTable : List Instr := [
  .writeBit 0 false, .write16 0 0, .write32 0 0, .read16 0, .encodeAndSend, .setFrameRate 0, .setCaptureMode,
  .setWoi 0 0 0 0, .setItimeInternal 0, .setItime 0, .captureFrames 0 0, .captureData 0 0, .setGain false,
  .setXinv false, .setYinv false, .setLinerepeat false, .setRefout false, .setReset false, .setSkim false, .setPower 0,
  .setCurrent 0, .setBias 0, .setBandwidth 0, .setOutputfactor 0, .setItr false, .setMultiplereadouts false,
  .setNondestructive false, .setPwm 0, .setCooling false, .setImageInvert false, .setAnalog 0 0, .get 0,
  .getTemperatureAdu, .getTemperatureAdcType, .openDevice, .closeDevice]

/-- The rows of spec/opcode_table.json are those of the model's opcodes and formats. -/
theorem opcodeRows_eq : Machine.opcodeRows
    = opTable.map fun i => (i.opcode ++ 0#72, Laws.TableRow.mask i.format) := rfl

/-- A word matches a row exactly when it has the opcode of an operation of the table and no reserved bit set. -/
theorem matches_row_iff (w : ReqWord) : (∃ row ∈ Machine.opcodeRows, w &&& row.2 = row.1) ↔
    ∃ i ∈ opTable, reqOp w = i.opcode ∧ i.format.reservedClear w = true := by
  simp [opcodeRows_eq, and_mask_eq_iff]

/-- No row has the opcode of a word exactly when no operation of the table has it. -/
theorem opcode_unlisted_iff (w : ReqWord) : (∀ row ∈ Machine.opcodeRows, reqOp row.1 ≠ reqOp w) ↔
    ∀ i ∈ opTable, i.opcode ≠ reqOp w := by
  simp [opcodeRows_eq, opcode_append_zero, reqOp_append]

/-- An opcode outside the table is rejected as unassigned (R93). -/
theorem decode_of_unlisted {w : ReqWord} (h : ∀ i ∈ opTable, i.opcode ≠ reqOp w) :
    decode w = .error .unassignedOpcode := by
  have hn : (reqOp w).toNat ∉ opTable.map fun i => i.opcode.toNat := by
    simpa [BitVec.toNat_inj] using h
  unfold decode
  split
  case h_37 => rfl
  all_goals
    next hop =>
    rw [hop] at hn
    exact absurd (by decide) hn

/-- What the decoder can do with a word: reject an opcode outside the table, or read it in the format of its row. -/
theorem decode_cases (w : ReqWord) :
    ((∀ i ∈ opTable, i.opcode ≠ reqOp w) ∧ decode w = .error .unassignedOpcode) ∨
    (∃ i ∈ opTable, reqOp w = i.opcode ∧ decode w = decodeAs i.format w (i.readFrom w)) := by
  by_cases h : ∃ i ∈ opTable, reqOp w = i.opcode
  · obtain ⟨i, hi, ho⟩ := h
    exact .inr ⟨i, hi, ho, decode_of_opcode ho⟩
  · push Not at h
    have hne : ∀ i ∈ opTable, i.opcode ≠ reqOp w := fun i hi => (h i hi).symm
    exact .inl ⟨hne, decode_of_unlisted hne⟩

/-- An accepted word has the opcode of its row and no reserved bit set, and the operation is what is read from it. -/
theorem decode_ok {w : ReqWord} {i : Instr} (h : decode w = .ok i) :
    ∃ j ∈ opTable, reqOp w = j.opcode ∧ j.format.reservedClear w = true ∧ i = j.readFrom w := by
  obtain ⟨-, hd⟩ | ⟨j, hj, ho, hd⟩ := decode_cases w
  · rw [hd] at h
    cases h
  · rw [hd, decodeAs] at h
    split at h
    next hc => exact ⟨j, hj, ho, hc, (Except.ok.inj h).symm⟩
    next => cases h

/-- The decoder accepts a word exactly when it matches a row. -/
theorem decode_ok_iff_matches_row (w : ReqWord) :
    (∃ i, decode w = .ok i) ↔ ∃ row ∈ Machine.opcodeRows, w &&& row.2 = row.1 := by
  rw [matches_row_iff]
  constructor
  · rintro ⟨i, hi⟩
    obtain ⟨j, hj, ho, hc, -⟩ := decode_ok hi
    exact ⟨j, hj, ho, hc⟩
  · rintro ⟨j, -, ho, hc⟩
    exact ⟨_, decode_of_reservedClear ho hc⟩

/-- The decoder rejects a word as unassigned exactly when no row has its opcode. -/
theorem decode_unassigned_iff (w : ReqWord) :
    decode w = .error .unassignedOpcode ↔ ∀ row ∈ Machine.opcodeRows, reqOp row.1 ≠ reqOp w := by
  rw [opcode_unlisted_iff]
  refine ⟨fun h => ?_, decode_of_unlisted⟩
  obtain ⟨hne, -⟩ | ⟨j, -, -, hd⟩ := decode_cases w
  · exact hne
  · rw [hd, decodeAs] at h
    split at h <;> cases h

/-- Settles O2: an accepted word is the encoding of what is read from it, and what is read fits its fields. -/
theorem decodedWordIsTheEncoding : Obligations.DecodedWordIsTheEncoding := by
  intro w i h
  obtain ⟨j, -, ho, hc, rfl⟩ := decode_ok h
  exact ⟨j.readFrom_wellFormed w, encode_readFrom ho hc⟩

/-- Settles O3: the rows of the table are the opcodes and masks of the formats the decoder reads in. -/
theorem decoderAcceptsExactlyTheTable : Obligations.DecoderAcceptsExactlyTheTable :=
  fun w => ⟨decode_ok_iff_matches_row w, decode_unassigned_iff w⟩

/-- Settles O4: the model decodes the thirteen words. -/
theorem sampleWordsDecode : Obligations.SampleWordsDecode := by
  unfold Obligations.SampleWordsDecode
  decide

/-! ### Undecodable requests -/

/-- An idle XCP, open or closed, answers a word that matches no row (R93; while closed by notes/assumptions/12). -/
theorem step_of_matches_no_row {s : Machine.State} {w : ReqWord} {rest : List ReqWord} (hr : s.reqs = w :: rest)
    (hi : s.outstanding = none) (hw : ∀ row ∈ Machine.opcodeRows, w &&& row.2 ≠ row.1) :
    Machine.step s = .next { s with reqs := rest, rsp := some { err := 0x10, value := 0 } } := by
  have hd : ¬ ∃ i, decode w = .ok i := by
    rw [decode_ok_iff_matches_row]
    exact fun ⟨row, hm, he⟩ => hw row hm he
  cases he : decode w with
  | ok i => exact absurd ⟨i, he⟩ hd
  | error e =>
    simp only [Machine.step, Machine.State.fetch_cons hr, Machine.State.blocked_of_idle s hi, he]
    rfl

/-- Settles O6: the open, idle XCP. -/
theorem undecodableRequestAnswersNotSupported : Obligations.UndecodableRequestAnswersNotSupported :=
  fun _ _ _ _ hr ⟨hi, _⟩ hw => step_of_matches_no_row hr hi hw

/-- Settles O7: the closed, idle XCP. -/
theorem undecodableRequestIsAnsweredWhileClosedToo : Obligations.UndecodableRequestIsAnsweredWhileClosedToo :=
  fun _ _ _ hr hi _ hw => step_of_matches_no_row hr hi hw

end Sys2Proof
end

section
/-! Register-layer sequences (30_encoding R99, R113): the first words of each sequence parse to their spaces, by O20, and
the reader names the sequence by those spaces whatever follows (O21). -/

namespace Sys2Proof.Machine

open Sys2Proof.Config

/-! ### What the reader makes of the first words -/

section FirstWords

variable {P : Params} {w v u : CmdWord} {p q : Nat}

theorem firstSequence_timing (hw : parseWord P w = some (.tsel, p)) (hp : p ≠ 0xFF) (ws : List CmdWord) :
    firstSequence P (w :: ws) = some .write16T := by
  simp [firstSequence, hw, hp]

theorem firstSequence_extended (hw : parseWord P w = some (.asel, p)) (hp : p ≠ 0xFF) (ws : List CmdWord) :
    firstSequence P (w :: ws) = some .write16X := by
  simp [firstSequence, hw, hp]

theorem firstSequence_auxRead (hw : parseWord P w = some (.auxa, 0xFF)) (hv : parseWord P v = some (.auxa, q))
    (ws : List CmdWord) : firstSequence P (w :: v :: ws) = some .auxRead := by
  simp [firstSequence, hw, hv]

theorem firstSequence_bank (hw : parseWord P w = some (.ctl, p)) (hp : p = P.banksel0.toNat ∨ p = P.banksel1.toNat)
    (hv : parseWord P v = some (.av0, q) ∨ parseWord P v = some (.av2, q)) (ws : List CmdWord) :
    firstSequence P (w :: v :: ws) = some .write16A := by
  obtain hv | hv := hv <;> simp [firstSequence, hw, hv, hp]

theorem firstSequence_sensorWord (hw : parseWord P w = some (.ctl, 6)) (hv : parseWord P v = some (.ctl, 3))
    (hu : parseWord P u = some (.w32, q)) (hq : 0x300 ≤ q) (ws : List CmdWord) :
    firstSequence P (w :: v :: u :: ws) = some .sensorWord := by
  simp [firstSequence, hw, hv, hu, hq]

end FirstWords

/-- How many words a sequence has (R99); a timing write has four for D and SETTLE only. -/
def SequenceKind.words : SequenceKind → Nat
  | .write16A => 5
  | .write16T | .write16X | .auxRead => 4
  | .sensorWord => 6

/-- The length of every sequence but a timing write is fixed by its kind. -/
theorem sequenceLength_of_kind {P : Params} {ws : List CmdWord} {k : SequenceKind} (hk : k ≠ .write16T)
    (hf : firstSequence P ws = some k) : sequenceLength P ws = some k.words := by
  cases k with
  | write16T => exact absurd rfl hk
  | write16A | write16X | sensorWord | auxRead => simp [sequenceLength, hf, SequenceKind.words]

/-- The length of a timing write depends on its pair. -/
theorem sequenceLength_timing {P : Params} {w : CmdWord} {p : Nat} (hw : parseWord P w = some (.tsel, p))
    (hp : p ≠ 0xFF) (ws : List CmdWord) : sequenceLength P (w :: ws) = some (if p = 0 then 3 else 4) := by
  simp [sequenceLength, firstSequence_timing hw hp ws, hw]

/-! ### The words of the sequences -/

/-- A word with an 8-bit payload parses to its space and payload. -/
theorem parseWord_w8 {P : Params} (h : P.Admissible) (g : Space) (hs : g.size = 0x100) (p : Byte) :
    parseWord P (w8 (g.base P) p) = some (g, p.toNat) :=
  (commandWordDeterminesSpaceAndPayload P g h).1 hs p

/-- An analog-value word parses to the space of its channel. -/
theorem parseWord_channel {P : Params} (h : P.Admissible) (c : Channel) (p : Byte) :
    parseWord P (w8 (c.base P) p) = some (.av0, p.toNat) ∨ parseWord P (w8 (c.base P) p) = some (.av2, p.toNat) := by
  cases c with
  | ch0 => exact .inl (parseWord_w8 h .av0 rfl p)
  | ch2 => exact .inr (parseWord_w8 h .av2 rfl p)

/-- A bank-select code is one of the two of the installation (R146). -/
theorem bankSelect_toNat (P : Params) (pair : Nat) :
    (bankSelect P pair).toNat = P.banksel0.toNat ∨ (bankSelect P pair).toNat = P.banksel1.toNat := by
  unfold bankSelect
  split
  · exact .inl rfl
  · exact .inr rfl

/-- A pair is never the deselecting payload. -/
theorem pair_payload_ne_deselect (r : Reg16) : (BitVec.ofNat 8 r.pair).toNat ≠ 0xFF := by
  have := r.k.isLt
  rw [BitVec.toNat_ofNat, Reg16.pair]
  omega

/-- A timing write has four words exactly for the pair of D and SETTLE (R99, R147). -/
theorem write16Words_timing_length (P : Params) (k : Fin 4) (v : Half) :
    (write16Words P { sub := .t, k := k } v).length
      = if (BitVec.ofNat 8 (Reg16.pair { sub := .t, k := k })).toNat = 0 then 3 else 4 := by
  fin_cases k <;> rfl

/-- The first word of a value with its most significant byte first has offset `0x300` or more (R104, R150). -/
theorem parseWord_value32_first {P : Params} (h : P.Admissible) (v : Word32) :
    ∃ q, parseWord P (v32Word P.w32Base 3 v) = some (.w32, q) ∧ 0x300 ≤ q :=
  ⟨_, (commandWordDeterminesSpaceAndPayload P .w32 h).2.1 rfl 3 v (by decide), by omega⟩

/-- The kind of a 16-bit write, by its sub-range (R146 to R148). -/
def SubRange.sequence : SubRange → SequenceKind
  | .a => .write16A
  | .t => .write16T
  | .x => .write16X

/-- A 16-bit write is recognised, with its length, by its selecting word and, for a bank, its first value word. -/
theorem write16_recognised {P : Params} (h : P.Admissible) (rest : List CmdWord) (r : Reg16) (v : Half) :
    firstSequence P (write16Words P r v ++ rest) = some r.sub.sequence ∧
      sequenceLength P (write16Words P r v ++ rest) = some (write16Words P r v).length := by
  have hp := pair_payload_ne_deselect r
  obtain ⟨sub, k⟩ := r
  cases sub with
  | a =>
    have hf : firstSequence P (write16Words P ⟨.a, k⟩ v ++ rest) = some .write16A :=
      firstSequence_bank (parseWord_w8 h .ctl rfl _) (bankSelect_toNat P _) (parseWord_channel h _ (lo8 v)) _
    exact ⟨hf, sequenceLength_of_kind (by decide) hf⟩
  | t =>
    have hw := parseWord_w8 h .tsel rfl (BitVec.ofNat 8 (Reg16.pair ⟨.t, k⟩))
    rw [write16Words_timing_length]
    exact ⟨firstSequence_timing hw hp _, sequenceLength_timing hw hp _⟩
  | x =>
    have hf : firstSequence P (write16Words P ⟨.x, k⟩ v ++ rest) = some .write16X :=
      firstSequence_extended (parseWord_w8 h .asel rfl _) hp _
    exact ⟨hf, sequenceLength_of_kind (by decide) hf⟩

/-- A sensor-word write is recognised by its two control codes and the most significant byte of the value (R151). -/
theorem write32_recognised {P : Params} (h : P.Admissible) (rest : List CmdWord) (v : Word32) :
    firstSequence P (write32Words P v ++ rest) = some .sensorWord ∧
      sequenceLength P (write32Words P v ++ rest) = some 6 := by
  obtain ⟨q, hu, hq⟩ := parseWord_value32_first h v
  have hf : firstSequence P (write32Words P v ++ rest) = some .sensorWord :=
    firstSequence_sensorWord (parseWord_w8 h .ctl rfl 6) (parseWord_w8 h .ctl rfl 3) hu hq _
  exact ⟨hf, sequenceLength_of_kind (by decide) hf⟩

/-- An auxiliary read is recognised by its reset select before its target select (R160). -/
theorem auxRead_recognised {P : Params} (h : P.Admissible) (rest : List CmdWord) (a : Byte) :
    firstSequence P (w8 P.auxaBase 0xFF :: w8 P.auxaBase a :: rest) = some .auxRead ∧
      sequenceLength P (w8 P.auxaBase 0xFF :: w8 P.auxaBase a :: rest) = some 4 := by
  have hf : firstSequence P (w8 P.auxaBase 0xFF :: w8 P.auxaBase a :: rest) = some .auxRead :=
    firstSequence_auxRead (parseWord_w8 h .auxa rfl 0xFF) (parseWord_w8 h .auxa rfl a) _
  exact ⟨hf, sequenceLength_of_kind (by decide) hf⟩

/-- Settles O21: each of the three kinds of sequence is recognised. -/
theorem sequencesAreRecognisedByTheirFirstWords : Obligations.SequencesAreRecognisedByTheirFirstWords :=
  fun _ rest h => ⟨write16_recognised h rest, write32_recognised h rest, auxRead_recognised h rest⟩

end Sys2Proof.Machine
end

section
/-! The packed sensor command word (30_encoding R105, R106): every bit of `pack`, and the layout it gives (O22). -/

namespace Sys2Proof.Machine

/-! ### One field at its place -/

/-- A field below bit `m`, shifted to `n`, holds its bits from `n` up and is clear elsewhere. -/
theorem shiftLeft_getLsbD_of_lt {x : Word32} {m n : Nat} (hx : x.toNat < 2 ^ m) (hn : n + m ≤ 32) (k : Nat) :
    (x <<< n).getLsbD k = (decide (n ≤ k ∧ k < n + m) && x.getLsbD (k - n)) := by
  rw [BitVec.getLsbD_shiftLeft]
  by_cases hk : n ≤ k
  · by_cases hm : k < n + m
    · simp [hk, hm, show k < 32 by omega]
    · have hz : x.getLsbD (k - n) = false :=
        Nat.testBit_lt_two_pow (lt_of_lt_of_le hx (Nat.pow_le_pow_right (by decide) (by omega)))
      rw [hz, Bool.and_false, Bool.and_false]
  · simp [hk, Nat.lt_of_not_le hk]

/-- A one-bit field shifted to `n` is set at `n` and nowhere else. -/
theorem fieldBit_shiftLeft_getLsbD (x : Bool) {n : Nat} (hn : n < 32) (k : Nat) :
    (fieldBit x <<< n).getLsbD k = (decide (k = n) && x) := by
  have hx : (fieldBit x).toNat < 2 ^ 1 := by cases x <;> decide
  rw [shiftLeft_getLsbD_of_lt hx hn]
  by_cases h : k = n
  · subst h
    simp [fieldBit]
  · have hne : ¬ (n ≤ k ∧ k < n + 1) := by omega
    rw [decide_eq_false hne, decide_eq_false h, Bool.false_and, Bool.false_and]

/-- A level masked to `m` bits and shifted to `n` (R107). -/
theorem level_shiftLeft_getLsbD {mask : Word32} {m n : Nat} (hm : mask = BitVec.ofNat 32 (2 ^ m - 1)) (x : Word32)
    (hn : n + m ≤ 32) (k : Nat) :
    ((x &&& mask) <<< n).getLsbD k = (decide (n ≤ k ∧ k < n + m) && x.getLsbD (k - n)) := by
  have hlt : (x &&& mask).toNat < 2 ^ m := by
    have hle : mask.toNat ≤ 2 ^ m - 1 := by
      rw [hm, BitVec.toNat_ofNat]
      exact Nat.mod_le _ _
    rw [BitVec.toNat_and]
    exact lt_of_le_of_lt (Nat.and_le_right.trans hle) (Nat.sub_one_lt (by positivity))
  rw [shiftLeft_getLsbD_of_lt hlt hn, BitVec.getLsbD_and]
  by_cases hk : n ≤ k ∧ k < n + m
  · have hbit : mask.getLsbD (k - n) = true := by
      rw [hm, BitVec.getLsbD_ofNat, Nat.testBit_two_pow_sub_one, Bool.and_eq_true_iff, decide_eq_true_iff,
        decide_eq_true_iff]
      omega
    rw [hbit, Bool.and_true]
  · rw [decide_eq_false hk, Bool.false_and, Bool.false_and]

/-- An output-factor code has two bits (R106). -/
theorem ofCode_toNat_lt (o : Word32) : (ofCode o).toNat < 2 ^ 2 := by
  unfold ofCode
  split_ifs <;> decide

/-- `pack` bit by bit (R105). -/
theorem pack_getLsbD (c : Cache) (k : Nat) : (pack c).getLsbD k =
    (decide (k = 31) || (decide (k = 29) && c.itr) || (decide (k = 28) && c.gain)
      || (decide (26 ≤ k ∧ k < 28) && c.power.getLsbD (k - 26))
      || (decide (23 ≤ k ∧ k < 26) && c.current.getLsbD (k - 23))
      || (decide (20 ≤ k ∧ k < 23) && c.bias.getLsbD (k - 20))
      || (decide (18 ≤ k ∧ k < 20) && c.bandwidth.getLsbD (k - 18))
      || (decide (k = 17) && c.multiplereadouts) || (decide (k = 16) && c.nondestructive)
      || (decide (k = 7) && !c.xinv) || (decide (k = 6) && !c.yinv) || (decide (k = 5) && c.linerepeat)
      || (decide (3 ≤ k ∧ k < 5) && (ofCode c.outputfactor).getLsbD (k - 3))
      || (decide (k = 2) && c.refout) || (decide (k = 1) && c.reset) || (decide (k = 0) && c.skim)) := by
  have top : ((1 <<< 31 : Nat) : Word32) = fieldBit true <<< 31 := rfl
  have bottom : fieldBit c.skim = fieldBit c.skim <<< 0 := (BitVec.shiftLeft_zero _).symm
  rw [pack, top, bottom]
  simp only [BitVec.getLsbD_or, fieldBit_shiftLeft_getLsbD, level_shiftLeft_getLsbD (mask := 3) (m := 2) rfl,
    level_shiftLeft_getLsbD (mask := 7) (m := 3) rfl, shiftLeft_getLsbD_of_lt (ofCode_toNat_lt _), Nat.reduceLT,
    Nat.reduceAdd, Nat.reduceLeDiff, Bool.and_true]

/-- Two fields of one width agree when their bits do. -/
theorem extractLsb'_eq_of_getLsbD {x y : Word32} {i j n : Nat}
    (h : ∀ k, k < n → x.getLsbD (i + k) = y.getLsbD (j + k)) : x.extractLsb' i n = y.extractLsb' j n := by
  apply BitVec.eq_of_getLsbD_eq
  intro k hk
  rw [BitVec.getLsbD_extractLsb', BitVec.getLsbD_extractLsb', h k hk]

/-- Settles O22: each part of the layout is read off the bits of `pack`. -/
theorem packedWordLayout : Obligations.PackedWordLayout := by
  intro c
  refine ⟨?_, ?_, ?_, ?_, ?power, ?current, ?bias, ?bandwidth, ?_, ?_, ?clear, ?_, ?_, ?_, ?outputfactor, ?_, ?_, ?_⟩
  case power | current | bias | bandwidth =>
    refine extractLsb'_eq_of_getLsbD fun k hk => ?_
    rw [pack_getLsbD]
    interval_cases k <;> simp
  case clear =>
    refine extractLsb'_eq_of_getLsbD (y := 0) (j := 0) fun k hk => ?_
    rw [pack_getLsbD]
    interval_cases k <;> simp
  case outputfactor =>
    have hcode : (pack c).extractLsb' 3 2 = (ofCode c.outputfactor).extractLsb' 0 2 := by
      refine extractLsb'_eq_of_getLsbD fun k hk => ?_
      rw [pack_getLsbD]
      interval_cases k <;> simp
    rw [hcode, ofCode]
    split_ifs <;> rfl
  all_goals
    rw [pack_getLsbD]
    simp

end Sys2Proof.Machine
end

section
/-! The command channel (40_command_channel R130 to R133): how an outcome is classified (O56), and what one answered word
(O57), status read (O58) and bulk read (O59) do. A state reached by one answered transaction is the state before it with the
event, `seq`, `err`, the images and the environment replaced; the laws of the three transactions say what those are. -/

namespace Sys2Proof.Machine

open Sys2Proof.Config

/-! ### Classes (R133) -/

/-- A row of the table of R133: the class of the report, with its `err` value (60_exceptions R260). -/
theorem mem_answerClasses_iff {a : Transport} {r : ResultClass} {f : Byte} :
    (a, r, f) ∈ answerClasses ↔ r = commandClass a ∧ f = (commandClass a).flag := by
  cases a <;> simp [answerClasses, commandClass, ResultClass.flag]

/-- The class of a bulk read in the order of R133: the report first, then the count. -/
theorem bulkClass_eq (n k : Nat) (a : Transport) :
    bulkClass n k a = if a = .timeout then .timeout else if a = .error then .generic
      else if k = n then .ok else if k = 0 then .generic else .underrun := by
  cases a with
  | timeout | error => rfl
  | ok => rcases Nat.eq_zero_or_pos k with rfl | hk <;> simp [bulkClass, *, Nat.ne_of_gt]

/-- Settles O56: R133's table for a word or a status read, and the three counts of a bulk read. -/
theorem transportOutcomesAreClassified : Obligations.TransportOutcomesAreClassified := by
  refine ⟨⟨rfl, rfl, rfl⟩, fun n k hn _ => ?_⟩
  simp only [bulkClass_eq]
  refine ⟨fun h => ?full, fun h0 h => ?short, fun h => ?empty, rfl, rfl⟩
  case full => simp [h]
  case short => simp [h.ne, h0.ne']
  case empty => simp [h, hn.ne]

/-! ### One answered transaction -/

/-- The state one answered transaction leaves, given the `err` and the images it leaves; of the environment only the answers
are known. -/
theorem Ran.eq_update {s t : State} {x : Xfer} {r : ResultClass} {f : Byte} {p : Byte × Byte × Byte}
    (h : Ran s t [x] [r]) (hi : s.outstanding = none) (herr : t.err = f) (hsel : t.selectors = p) :
    t = { s with
      env := t.env, draws := t.draws, trace := s.trace ++ [{ xfer := x, result := r }], seq := s.seq + 1, err := f
      tsel := p.1, asel := p.2.1, auxa := p.2.2 } := by
  subst herr hsel
  obtain ⟨-, trace, seq, idle, -, cfg, reqs, cache, cstate, framelog, buf, rsp⟩ := h
  have outstanding := idle.trans hi.symm
  cases t
  rw [State.mk.injEq]
  exact ⟨cfg, reqs, rfl, rfl, cache, cstate, rfl, seq, outstanding, rsp, trace, rfl, rfl, rfl, framelog, buf⟩

/-- The image of a selector after one word (10_state R42). -/
theorem imageAfter_singleton (base : CmdWord) (old : Byte) (w : CmdWord) :
    imageAfter base old [w] = if hi8 w = hi8 base then lo8 w else old := by
  simp [imageAfter, inSpace]

/-- Settles O57: the law of an answered `Send` gives its class and its images. -/
theorem sendIsOneClassifiedTransaction : Obligations.SendIsOneClassifiedTransaction := by
  intro s w a r f hi ha hf
  obtain ⟨rfl, rfl⟩ := mem_answerClasses_iff.1 hf
  have hr : s.replies.classOf (.cmd w) = some (commandClass a) := by rw [Replies.classOf, ha, Option.map_some]
  obtain ⟨h, herr⟩ := State.send_ran hi hr
  have hsel := State.send_selectors hi hr
  rw [imageAfter_singleton, imageAfter_singleton, imageAfter_singleton] at hsel
  exact ⟨_, _, h.eq_update hi herr hsel, fun k => by rw [h.replies]; rfl⟩

/-- What an answered status read raises: the class of its report, or `Generic` for a bad validity byte (R131). -/
theorem statusResult_flags (P : Params) (r : StatusReply) :
    (commandClass r.transport).flag ||| (statusResult P r).1.flag
      = if r.transport = .ok ∧ validOf P r.bytes[0] = false then 0x20 else (commandClass r.transport).flag := by
  cases ht : r.transport with
  | ok => cases hv : validOf P r.bytes[0] <;> simp [statusResult, commandClass, ResultClass.flag, ht, hv]
  | timeout | error => simp [statusResult, commandClass, ht]

/-- What an answered status read hands back: the decoded pair of a good response, else zeros (R131). -/
theorem statusResult_value (P : Params) (r : StatusReply) :
    (statusResult P r).2 = if r.transport = .ok ∧ validOf P r.bytes[0] = true then
        { temperature := tempOf P r.bytes[8] r.bytes[9], eepromSize := eepromSizeOf P r.bytes[1] }
      else { temperature := 0, eepromSize := 0 } := by
  cases ht : r.transport with
  | ok => cases hv : validOf P r.bytes[0] <;> simp [statusResult, ht, hv]
  | timeout | error => simp [statusResult, ht]

/-- Settles O58: the law of an answered status read, with what it raises and hands back. -/
theorem statusReadIsOneClassifiedTransaction : Obligations.StatusReadIsOneClassifiedTransaction := by
  intro s r q f hi hr hf
  obtain ⟨rfl, rfl⟩ := mem_answerClasses_iff.1 hf
  obtain ⟨h, herr, hsel, hv⟩ := State.readStatus_ran hi hr
  rw [BitVec.or_assoc, statusResult_flags] at herr
  rw [statusResult_value] at hv
  exact ⟨_, _, h.eq_update hi herr hsel, hv, fun k => by rw [h.replies]; rfl⟩

/-- A reply no longer than asked for is received whole, with the class of its length (R132, R133). -/
theorem receive_of_length_le {n : Nat} {r : BulkReply} (h : r.bytes.length ≤ n) :
    receive n r = { result := bulkClass n r.bytes.length r.transport, bytes := r.bytes } := by
  rw [receive, List.take_of_length_le h]

/-- Settles O59: the law of an answered bulk read, of a reply that is received whole. -/
theorem bulkReadIsOneClassifiedTransaction : Obligations.BulkReadIsOneClassifiedTransaction := by
  intro s n ms r q hi _ hlen hr hq
  rw [← bulkClass_eq] at hq
  subst hq
  obtain ⟨h, herr, hsel, hv⟩ := State.bulkRead_ran n ms hi hr
  rw [receive_of_length_le hlen] at h hv
  exact ⟨_, _, Prod.ext (h.eq_update hi herr hsel) hv, fun k => by rw [h.replies]; rfl⟩

end Sys2Proof.Machine
end

section
/-! The Register Access Layer (41_register_access): what the registers an id names are, what WRITE_BIT (O9), WRITE16 (O10 to
O13), WRITE32 (O14, O15) and READ16 with the temperature getters (O16, O17) do, and the inverse of a 16-bit write (O19). Each
write is a list of words and an answer; the selector images it leaves are read off the spaces its words lie in. -/

namespace Sys2Proof.Machine

open Sys2Proof.Config

/-! ### Register ids (10_state R31 to R34) -/

@[simp] theorem reg16Of_id (r : Reg16) : reg16Of r.id = some r := by
  obtain ⟨sub, k⟩ := r
  cases sub <;> fin_cases k <;> rfl

theorem reg16Of_isSome_iff (id : Byte) : (reg16Of id).isSome = true ↔
    (0x10 ≤ id.toNat ∧ id.toNat ≤ 0x13) ∨ (0x20 ≤ id.toNat ∧ id.toNat ≤ 0x23) ∨
      (0x30 ≤ id.toNat ∧ id.toNat ≤ 0x33) := by
  unfold reg16Of
  dsimp only
  split_ifs <;> simp [*]

theorem bitIndex_isSome_iff (P : Params) (id : Byte) : (bitIndex P id).isSome = true ↔ id.toNat < 4 := by
  unfold bitIndex
  simp only [← BitVec.toNat_inj, BitVec.reduceToNat]
  split_ifs <;> simp <;> omega

/-- The index of each of the four bit registers (10_state R31). -/
theorem bitIndex_of_mem {P : Params} {id : Byte} {idx : BitVec 3}
    (h : (id, idx) ∈ [((0x00 : Byte), P.idxCooling), (0x01, P.idxContinuous), (0x02, P.idxExttrig), (0x03, P.idxInvert)]) :
    bitIndex P id = some idx := by
  simp only [List.mem_cons, Prod.mk.injEq, List.not_mem_nil, or_false] at h
  rcases h with ⟨rfl, rfl⟩ | ⟨rfl, rfl⟩ | ⟨rfl, rfl⟩ | ⟨rfl, rfl⟩ <;> rfl

theorem writeOnlyId_iff (P : Params) (id : Byte) : writeOnlyId P id = true ↔
    id.toNat < 4 ∨ (0x10 ≤ id.toNat ∧ id.toNat ≤ 0x13) ∨ (0x20 ≤ id.toNat ∧ id.toNat ≤ 0x23) ∨
      (0x30 ≤ id.toNat ∧ id.toNat ≤ 0x33) ∨ id.toNat = 0x50 := by
  have hid : id = sensorWordId ↔ id.toNat = 0x50 := BitVec.toNat_inj.symm
  rw [writeOnlyId, Bool.or_eq_true, Bool.or_eq_true, bitIndex_isSome_iff, reg16Of_isSome_iff, beq_iff_eq, hid]
  tauto

theorem auxAddress_eq_none {P : Params} {id : Byte} (h0 : id ≠ 0x40) (h1 : id ≠ 0x41) : auxAddress P id = none := by
  rw [auxAddress, if_neg h0, if_neg h1]

/-! ### Running an operation of the layer -/

section Running

variable {s : State} {c : Cache}

theorem exec_writeBit_of_index (h : Available s c) {id : Byte} {idx : BitVec 3} (hx : bitIndex s.cfg id = some idx)
    (d : Bool) : exec (.writeBit id d) s = .next ((s.begin.emit [ctlWord s.cfg idx d]).respond 0) := by
  rw [exec, execWriteBit, State.accept_of_available h, State.begin_cfg, hx]
  rfl

theorem exec_writeBit_of_none (h : Available s c) {id : Byte} (hx : bitIndex s.cfg id = none) (d : Bool) :
    exec (.writeBit id d) s = .next ((s.begin.raise .noSuchRegister).respond 0) := by
  rw [exec, execWriteBit, State.accept_of_available h, State.begin_cfg, hx]

theorem exec_write16_of_reg (h : Available s c) {id : Byte} {r : Reg16} (hr : reg16Of id = some r) (v : Half) :
    exec (.write16 id v) s = .next ((s.begin.emit (write16Words s.cfg r v)).respond 0) := by
  rw [exec, execWrite16, State.accept_of_available h, hr]
  rfl

theorem exec_write16_of_none (h : Available s c) {id : Byte} (hr : reg16Of id = none) (v : Half) :
    exec (.write16 id v) s = .next ((s.begin.raise .noSuchRegister).respond 0) := by
  rw [exec, execWrite16, State.accept_of_available h, hr]

theorem exec_write32_sensorWord (h : Available s c) (v : Word32) :
    exec (.write32 sensorWordId v) s = .next ((s.begin.emit (write32Words s.cfg v)).respond 0) := by
  rw [exec, execWrite32, State.accept_of_available h, if_pos rfl]
  rfl

theorem exec_write32_of_ne (h : Available s c) {id : Byte} (hid : id ≠ sensorWordId) (v : Word32) :
    exec (.write32 id v) s = .next ((s.begin.raise .noSuchRegister).respond 0) := by
  rw [exec, execWrite32, State.accept_of_available h, if_neg hid]

theorem exec_read16_of_address (h : Available s c) {id a : Byte} (ha : auxAddress s.cfg id = some a) :
    exec (.read16 id) s = .next (s.begin.readAux a) := by
  rw [exec, execRead16, State.accept_of_available h, State.begin_cfg, ha]

theorem exec_read16_of_none (h : Available s c) {id : Byte} (ha : auxAddress s.cfg id = none) :
    exec (.read16 id) s
      = .next ((s.begin.raise (if writeOnlyId s.cfg id then .notSupported else .noSuchRegister)).respond 0) := by
  rw [exec, execRead16, State.accept_of_available h, State.begin_cfg, ha]
  dsimp only
  split <;> rfl

theorem Executes.err {i : Instr} {s t : State} {xs : List Xfer} {rs : List ResultClass} {v : Word32}
    (h : Executes i s t xs rs v) : t.err = orFlags rs := by
  obtain ⟨-, -, herr, -⟩ := h
  exact herr

/-- An operation that raises one class and answers has answered that class. -/
theorem answers_of_raise (h : Available s c) {i : Instr} {r : ResultClass}
    (hx : exec i s = .next ((s.begin.raise r).respond 0)) : ∃ t, Answers i s t r.flag 0 :=
  ⟨_, hx, State.raise_respond_answers h.1 r 0⟩

/-- An operation that sends a list of words and answers has executed that list; the cache is kept and the images are those
of the words. -/
theorem executes_of_emit (h : Available s c) {i : Instr} {ws : List CmdWord} {rs : List ResultClass}
    (hx : exec i s = .next ((s.begin.emit ws).respond 0)) (ha : Answered s (sent ws) rs) :
    ∃ t, Executes i s t (sent ws) rs 0 ∧ t.cache = some c ∧
      t.selectors = (imageAfter s.cfg.tselBase s.tsel ws, imageAfter s.cfg.aselBase s.asel ws,
        imageAfter s.cfg.auxaBase s.auxa ws) := by
  obtain ⟨hem, herr, hun, hc, hsel⟩ := State.emit_respond_completed h ha 0
  exact ⟨_, ⟨hx, hem, herr, hun⟩, hc, hsel⟩

/-- The same of words no selector sees. -/
theorem executes_of_emit_unselecting (h : Available s c) {i : Instr} {ws : List CmdWord} {rs : List ResultClass}
    (hx : exec i s = .next ((s.begin.emit ws).respond 0)) (ha : Answered s (sent ws) rs)
    (hw : ∀ w ∈ ws, Unselecting s.cfg w) :
    ∃ t, Executes i s t (sent ws) rs 0 ∧ t.cache = some c ∧ t.selectors = s.selectors := by
  obtain ⟨t, ht, hc, hsel⟩ := executes_of_emit h hx ha
  exact ⟨t, ht, hc, hsel.trans (images_of_unselecting hw)⟩

end Running

/-! ### WRITE_BIT (R144) -/

/-- Under the layout of 30_encoding R102 the payload is the index above the data bit. -/
theorem ctlPayloadOf_shifted {P : Params} (h : P.ctlLayout = .shifted) (idx : BitVec 3) (d : Bool) :
    ctlPayloadOf P idx d = BitVec.ofNat 8 (2 * idx.toNat + d.toNat) := by
  have hp : ∀ (idx : BitVec 3) (d : Bool),
      (idx.setWidth 8 <<< 1) ||| (BitVec.ofBool d).setWidth 8 = BitVec.ofNat 8 (2 * idx.toNat + d.toNat) := by decide
  rw [ctlPayloadOf, h]
  exact hp idx d

theorem orFlags_singleton (r : ResultClass) : orFlags [r] = r.flag := BitVec.or_zero

/-- One word answered is a list of one class. -/
theorem answered_singleton {s : State} {w : CmdWord} {a : Transport} (h : s.replies.cmd 0 = some a) :
    Answered s (sent [w]) [commandClass a] := by
  simp [Answered, sent, Replies.classOf, h]

/-- Settles O9: the word of the register's index, or none. -/
theorem writeBitSendsOneControlWord : Obligations.WriteBitSendsOneControlWord := by
  intro s c id d
  refine ⟨fun idx a r f hid hr ha hf => ?sent, fun idx h => ctlPayloadOf_shifted h idx d, fun hid h => ?other⟩
  case sent =>
    obtain ⟨rfl, rfl⟩ := mem_answerClasses_iff.1 hf
    obtain ⟨t, ht, hc, hsel⟩ := executes_of_emit_unselecting hr.1 (exec_writeBit_of_index hr.1 (bitIndex_of_mem hid) d)
      (answered_singleton ha) (fun w hw => by rw [List.mem_singleton.1 hw]; exact unselecting_ctl hr.2 _)
    have herr : t.err = (commandClass a).flag := ht.err.trans (orFlags_singleton _)
    exact ⟨t, ht, herr, hc, hsel⟩
  case other =>
    have hx : bitIndex s.cfg id = none := by
      rw [← Option.not_isSome_iff_eq_none, bitIndex_isSome_iff]
      omega
    exact answers_of_raise h (exec_writeBit_of_none h hx d)

/-! ### The words of a 16-bit write (R145 to R148) -/

/-- The space of the words that select a register of a sub-range. -/
def SubRange.selector : SubRange → Space
  | .a => .ctl
  | .t => .tsel
  | .x => .asel

/-- The payload of the word that selects a register. -/
def Reg16.selectPayload (P : Params) (r : Reg16) : Byte :=
  match r.sub with
  | .a => bankSelect P r.pair
  | .t | .x => BitVec.ofNat 8 r.pair

/-- The payloads of the selector words that close a write. -/
def Reg16.closePayloads (P : Params) (r : Reg16) : List Byte :=
  match r.sub with
  | .a => [P.banksel0, P.banksel1]
  | .t => if timingDeselects r then [deselect] else []
  | .x => [deselect]

theorem SubRange.selector_size (sub : SubRange) : sub.selector.size = 0x100 := by cases sub <;> rfl

/-- Every 16-bit write: a selecting word, the value on its channel, and closing words of the selector's space. -/
theorem write16Words_eq (P : Params) (r : Reg16) (v : Half) :
    write16Words P r v = w8 (r.sub.selector.base P) (r.selectPayload P) ::
      (chan16 P r.channel v ++ (r.closePayloads P).map (w8 (r.sub.selector.base P))) := by
  obtain ⟨sub, k⟩ := r
  cases sub with
  | a | x => rfl
  | t =>
    dsimp only [write16Words, Reg16.closePayloads]
    cases timingDeselects ⟨.t, k⟩ <;> rfl

theorem channel_base_eq (P : Params) (r : Reg16) :
    r.channel.base P = if r.k.val % 2 = 0 then P.av0Base else P.av2Base := by
  unfold Reg16.channel
  split <;> rfl

theorem timingDeselects_iff (r : Reg16) : timingDeselects r = true ↔ 2 ≤ r.k.val := by
  have := r.k.isLt
  simp only [timingDeselects, Bool.or_eq_true, decide_eq_true_eq]
  omega

/-- A selector of another space sees no analog-value word. -/
theorem inSpace_chan16 {P : Params} (h : P.Admissible) (ch : Channel) (v : Half) {g : Space} (hg : g.size = 0x100)
    (h0 : g ≠ .av0) (h2 : g ≠ .av2) : ∀ w ∈ chan16 P ch v, inSpace (g.base P) w = false := by
  have hw8 : ∀ p, inSpace (g.base P) (w8 (ch.base P) p) = false := fun p => by
    cases ch with
    | ch0 => exact inSpace_of_other h hg h0.symm (w8_holds h .av0 p rfl)
    | ch2 => exact inSpace_of_other h hg h2.symm (w8_holds h .av2 p rfl)
  intro w hw
  simp only [chan16, List.mem_cons, List.not_mem_nil, or_false] at hw
  rcases hw with rfl | rfl
  · exact hw8 _
  · exact hw8 _

/-- A selector whose space is not the sub-range's sees no word of the write. -/
theorem inSpace_write16Words {P : Params} (h : P.Admissible) (sub : SubRange) (k : Fin 4) (v : Half) {g : Space}
    (hg : g.size = 0x100) (hs : sub.selector ≠ g) (h0 : g ≠ .av0) (h2 : g ≠ .av2) :
    ∀ w ∈ write16Words P ⟨sub, k⟩ v, inSpace (g.base P) w = false := by
  have hsel : ∀ p, inSpace (g.base P) (w8 (sub.selector.base P) p) = false := fun p =>
    inSpace_of_other h hg hs (w8_holds h _ p sub.selector_size)
  intro w hw
  simp only [write16Words_eq, List.mem_cons, List.mem_append, List.mem_map] at hw
  rcases hw with rfl | hw | ⟨p, -, rfl⟩
  · exact hsel _
  · exact inSpace_chan16 h _ v hg h0 h2 w hw
  · exact hsel p

/-- A selector's image after words of other spaces is the payload of the selector's last word before them. -/
theorem imageAfter_self_append_others (base : CmdWord) (old p : Byte) (ws vs : List CmdWord) (hb : base.toNat % 256 = 0)
    (h : ∀ w ∈ vs, inSpace base w = false) : imageAfter base old (ws ++ w8 base p :: vs) = p := by
  have hsplit : imageAfter base old (ws ++ w8 base p :: vs)
      = imageAfter base (imageAfter base old (ws ++ [w8 base p])) vs := by
    simp [imageAfter]
  rw [hsplit, imageAfter_append_self _ _ _ _ hb, imageAfter_of_others _ _ _ h]

/-- The image of the sub-range's own selector: the last closing payload, else the selecting one. -/
theorem imageAfter_write16Words {P : Params} (h : P.Admissible) (r : Reg16) (v : Half) (old : Byte) :
    imageAfter (r.sub.selector.base P) old (write16Words P r v)
      = (r.closePayloads P).getLastD (r.selectPayload P) := by
  have hb : (r.sub.selector.base P).toNat % 256 = 0 := base_aligned h r.sub.selector_size
  have hne : r.sub.selector ≠ .av0 ∧ r.sub.selector ≠ .av2 := by cases r.sub <;> decide
  have hchan := inSpace_chan16 h r.channel v r.sub.selector_size hne.1 hne.2
  rw [write16Words_eq]
  rcases List.eq_nil_or_concat (r.closePayloads P) with hl | ⟨ps, p, hl⟩
  · rw [hl, List.map_nil, List.append_nil]
    exact imageAfter_self_append_others _ _ _ [] _ hb hchan
  · rw [hl, List.concat_eq_append, List.getLastD_concat, List.map_append, ← List.append_assoc, ← List.cons_append]
    exact imageAfter_append_self _ _ _ _ hb

/-- What `WRITE16` of a register does, over all three sub-ranges. -/
theorem write16_executes {s : State} {c : Cache} (h : Available s c) (r : Reg16) (v : Half) {rs : List ResultClass}
    (ha : Answered s (sent (write16Words s.cfg r v)) rs) :
    ∃ t, Executes (.write16 r.id v) s t (sent (write16Words s.cfg r v)) rs 0 ∧ t.cache = some c ∧
      t.selectors = (imageAfter s.cfg.tselBase s.tsel (write16Words s.cfg r v),
        imageAfter s.cfg.aselBase s.asel (write16Words s.cfg r v),
        imageAfter s.cfg.auxaBase s.auxa (write16Words s.cfg r v)) :=
  executes_of_emit h (exec_write16_of_reg h (reg16Of_id r) v) ha

/-- Settles O10: the words of sub-range A lie in no selector's space. -/
theorem write16BankSelectSequence : Obligations.Write16BankSelectSequence := by
  intro s c k v xs rs hr hxs ha
  have hws : xs = sent (write16Words s.cfg ⟨.a, k⟩ v) := by
    rw [hxs, ← channel_base_eq s.cfg ⟨.a, k⟩]
    rfl
  subst hws
  obtain ⟨t, ht, hc, hsel⟩ := write16_executes hr.1 ⟨.a, k⟩ v ha
  refine ⟨t, ht, hc, hsel.trans (images_of_unselecting fun w hw => ⟨?_, ?_, ?_⟩)⟩
  · exact inSpace_write16Words hr.2 .a k v (g := .tsel) rfl (by decide) (by decide) (by decide) w hw
  · exact inSpace_write16Words hr.2 .a k v (g := .asel) rfl (by decide) (by decide) (by decide) w hw
  · exact inSpace_write16Words hr.2 .a k v (g := .auxa) rfl (by decide) (by decide) (by decide) w hw

/-- Settles O11: the timing selector's image is the closing payload of D and SETTLE, the selecting one of P and I. -/
theorem write16TimingSequence : Obligations.Write16TimingSequence := by
  intro s c k v xs rs hr hxs ha
  have hws : xs = sent (write16Words s.cfg ⟨.t, k⟩ v) := by
    rw [hxs, ← channel_base_eq s.cfg ⟨.t, k⟩, if_congr (timingDeselects_iff ⟨.t, k⟩).symm rfl rfl]
    rfl
  subst hws
  obtain ⟨t, ht, hc, hsel⟩ := write16_executes hr.1 ⟨.t, k⟩ v ha
  refine ⟨t, ht, hc, hsel.trans ?_⟩
  have htsel : imageAfter s.cfg.tselBase s.tsel (write16Words s.cfg ⟨.t, k⟩ v) = if 2 ≤ k.val then 0xFF else 0x00 :=
    (imageAfter_write16Words hr.2 ⟨.t, k⟩ v s.tsel).trans (by fin_cases k <;> rfl)
  have hasel := inSpace_write16Words hr.2 .t k v (g := .asel) rfl (by decide) (by decide) (by decide)
  have hauxa := inSpace_write16Words hr.2 .t k v (g := .auxa) rfl (by decide) (by decide) (by decide)
  exact congrArg₂ Prod.mk htsel
    (congrArg₂ Prod.mk (imageAfter_of_others _ _ _ hasel) (imageAfter_of_others _ _ _ hauxa))

/-- Settles O12: sub-range X always closes with a deselect. -/
theorem write16ExtendedSequence : Obligations.Write16ExtendedSequence := by
  intro s c k v xs rs hr hxs ha
  have hws : xs = sent (write16Words s.cfg ⟨.x, k⟩ v) := by
    rw [hxs, ← channel_base_eq s.cfg ⟨.x, k⟩]
    rfl
  subst hws
  obtain ⟨t, ht, hc, hsel⟩ := write16_executes hr.1 ⟨.x, k⟩ v ha
  refine ⟨t, ht, hc, hsel.trans ?_⟩
  have hasel : imageAfter s.cfg.aselBase s.asel (write16Words s.cfg ⟨.x, k⟩ v) = 0xFF :=
    imageAfter_write16Words hr.2 ⟨.x, k⟩ v s.asel
  have htsel := inSpace_write16Words hr.2 .x k v (g := .tsel) rfl (by decide) (by decide) (by decide)
  have hauxa := inSpace_write16Words hr.2 .x k v (g := .auxa) rfl (by decide) (by decide) (by decide)
  exact congrArg₂ Prod.mk (imageAfter_of_others _ _ _ htsel)
    (congrArg₂ Prod.mk hasel (imageAfter_of_others _ _ _ hauxa))

/-- Settles O13: an id outside the three ranges names no register. -/
theorem write16OtherIdIsNoSuchRegister : Obligations.Write16OtherIdIsNoSuchRegister := by
  intro s c id v h ha ht hx
  have hn : reg16Of id = none := by
    rw [← Option.not_isSome_iff_eq_none, reg16Of_isSome_iff]
    exact not_or.2 ⟨ha, not_or.2 ⟨ht, hx⟩⟩
  exact answers_of_raise h (exec_write16_of_none h hn v)

/-! ### Reading a 16-bit write back (R162) -/

/-- The selecting word names the sub-range and the pair: bank codes by R146, pairs by R147 and R148. -/
theorem headOf16_selectPayload {P : Params} (hb : P.banksel0 ≠ P.banksel1) (r : Reg16) :
    headOf16 P (some (r.sub.selector, (r.selectPayload P).toNat)) = some (r.sub, r.pair) := by
  have hne : P.banksel1.toNat ≠ P.banksel0.toNat := fun h => hb (BitVec.eq_of_toNat_eq h.symm)
  obtain ⟨sub, k⟩ := r
  cases sub with
  | a => fin_cases k <;>
      simp [headOf16, SubRange.selector, Reg16.selectPayload, bankSelect, Reg16.pair, hne]
  | t | x => fin_cases k <;> rfl

/-- A word on a register's channel names the register's parity. -/
theorem channelBitOf_channel {P : Params} (h : P.Admissible) (r : Reg16) (p : Byte) :
    channelBitOf (parseWord P (w8 (r.channel.base P) p)) = some (r.k.val % 2) := by
  rcases Nat.mod_two_eq_zero_or_one r.k.val with hk | hk
  · have hc : r.channel = .ch0 := by simp [Reg16.channel, hk]
    have hp : parseWord P (w8 (r.channel.base P) p) = some (.av0, p.toNat) := by
      rw [hc]; exact parseWord_w8 h .av0 rfl p
    rw [hp, hk]; rfl
  · have hc : r.channel = .ch2 := by simp [Reg16.channel, hk]
    have hp : parseWord P (w8 (r.channel.base P) p) = some (.av2, p.toNat) := by
      rw [hc]; exact parseWord_w8 h .av2 rfl p
    rw [hp, hk]; rfl

/-- The pair and the parity give the id back (10_state R32). -/
theorem Reg16.id_of_pair (r : Reg16) : BitVec.ofNat 8 (r.sub.base + 2 * r.pair + r.k.val % 2) = r.id := by
  have hk : r.sub.base + 2 * r.pair + r.k.val % 2 = r.sub.base + r.k.val := by
    rw [Reg16.pair]; omega
  rw [hk]; rfl

/-- The two bytes of a value, put together again (20_memory R67). -/
theorem hi8_append_lo8 (v : Half) : hi8 v ++ lo8 v = v := by
  have h : hi8 v ++ lo8 v = v.extractLsb' 0 16 := BitVec.extractLsb'_append_extractLsb'_eq_extractLsb' rfl
  rw [h, BitVec.extractLsb'_eq_self]

theorem channel_base_aligned {P : Params} (h : P.Admissible) (ch : Channel) : (ch.base P).toNat % 256 = 0 := by
  cases ch with
  | ch0 => exact base_aligned h (g := .av0) rfl
  | ch2 => exact base_aligned h (g := .av2) rfl

/-- Settles O19: the selecting word, the channel of the first value word and the two payloads determine the write. -/
theorem decode16InvertsWrite16 : Obligations.Decode16InvertsWrite16 := by
  intro P r v h hb
  have hw := parseWord_w8 h _ r.sub.selector_size (r.selectPayload P)
  have hlo := lo8_w8 _ (lo8 v) (channel_base_aligned h r.channel)
  have hhi := lo8_w8 _ (hi8 v) (channel_base_aligned h r.channel)
  rw [write16Words_eq, chan16, List.cons_append, List.cons_append, decode16, hw, headOf16_selectPayload hb,
    channelBitOf_channel h, hlo, hhi, hi8_append_lo8]
  exact congrArg (fun i => some (i, v)) r.id_of_pair

/-! ### WRITE32 (R150 to R152) -/

/-- The words of a sensor-word write touch no selector. -/
theorem unselecting_write32Words {P : Params} (h : P.Admissible) (v : Word32) :
    ∀ w ∈ write32Words P v, Unselecting P w := by
  intro w hw
  simp only [write32Words, List.mem_append, List.mem_cons, List.not_mem_nil, or_false] at hw
  rcases hw with (rfl | rfl) | hw
  · exact unselecting_ctl h 6
  · exact unselecting_ctl h 3
  · exact unselecting_value32 h (g := .w32) rfl v w hw

/-- The last byte of a value has offset 0 (30_encoding R104). -/
theorem v32Word_zero (base : CmdWord) (v : Word32) : v32Word base 0 v = base ||| (v.extractLsb' 0 8).setWidth 16 := by
  rw [v32Word, Nat.zero_mul, BitVec.add_zero]
  rfl

/-- Settles O14: the six words are those of the model, and no selector sees them. -/
theorem write32SensorWordSequence : Obligations.Write32SensorWordSequence := by
  intro s c v xs rs hr hxs ha
  have hws : xs = sent (write32Words s.cfg v) := by
    rw [hxs, ← v32Word_zero]
    rfl
  subst hws
  exact executes_of_emit_unselecting hr.1 (exec_write32_sensorWord hr.1 v) ha (unselecting_write32Words hr.2 v)

/-- Settles O15: no other id names the sensor word. -/
theorem write32OtherIdIsNoSuchRegister : Obligations.Write32OtherIdIsNoSuchRegister :=
  fun _ _ _ v h hid => answers_of_raise h (exec_write32_of_ne h hid v)

/-! ### READ16 and the temperature getters (R160, R161) -/

/-- A word of the auxiliary spaces is seen by the auxiliary-address selector alone. -/
theorem inSpace_of_auxiliary {P : Params} (h : P.Admissible) {g : Space} (hg : g = .auxa ∨ g = .auxd) (p : Byte) :
    inSpace P.tselBase (w8 (g.base P) p) = false ∧ inSpace P.aselBase (w8 (g.base P) p) = false := by
  rcases hg with rfl | rfl
  · exact ⟨inSpace_of_other h (g := .tsel) rfl (by decide) (w8_holds h .auxa p rfl),
      inSpace_of_other h (g := .asel) rfl (by decide) (w8_holds h .auxa p rfl)⟩
  · exact ⟨(unselecting_auxd h p).1, (unselecting_auxd h p).2.1⟩

/-- Words that only the auxiliary-address selector sees move its image alone. -/
theorem State.emit_selectors_of_auxiliary {s : State} {ws : List CmdWord} {rs : List ResultClass}
    (hi : s.outstanding = none) (ha : Answered s (sent ws) rs)
    (h : ∀ w ∈ ws, inSpace s.cfg.tselBase w = false ∧ inSpace s.cfg.aselBase w = false) :
    (s.emit ws).selectors = (s.tsel, s.asel, imageAfter s.cfg.auxaBase s.auxa ws) := by
  rw [State.emit_selectors ws s rs hi ha, imageAfter_of_others _ _ _ fun w hw => (h w hw).1,
    imageAfter_of_others _ _ _ fun w hw => (h w hw).2]

/-- The words before the status read of an auxiliary read: reset select, target select. -/
def auxOpening (P : Params) (a : Byte) : List CmdWord := [w8 P.auxaBase deselect, w8 P.auxaBase a]

/-- The words after it: reset select, data 0. -/
def auxClosing (P : Params) : List CmdWord := [w8 P.auxaBase deselect, w8 P.auxdBase 0x00]

theorem auxReadXfers_eq (P : Params) (a : Byte) :
    auxReadXfers P a = sent (auxOpening P a) ++ ([.status] ++ sent (auxClosing P)) := rfl

theorem State.readAux_eq (s : State) (a : Byte) :
    s.readAux a = ((s.emit (auxOpening s.cfg a)).readStatus.1.emit (auxClosing s.cfg)).respond
      ((s.emit (auxOpening s.cfg a)).readStatus.2.temperature.setWidth 32) := rfl

theorem inSpace_auxOpening {P : Params} (h : P.Admissible) (a : Byte) :
    ∀ w ∈ auxOpening P a, inSpace P.tselBase w = false ∧ inSpace P.aselBase w = false := by
  intro w hw
  simp only [auxOpening, List.mem_cons, List.not_mem_nil, or_false] at hw
  rcases hw with rfl | rfl
  · exact inSpace_of_auxiliary h (.inl rfl) deselect
  · exact inSpace_of_auxiliary h (.inl rfl) a

theorem inSpace_auxClosing {P : Params} (h : P.Admissible) :
    ∀ w ∈ auxClosing P, inSpace P.tselBase w = false ∧ inSpace P.aselBase w = false := by
  intro w hw
  simp only [auxClosing, List.mem_cons, List.not_mem_nil, or_false] at hw
  rcases hw with rfl | rfl
  · exact inSpace_of_auxiliary h (.inl rfl) deselect
  · exact inSpace_of_auxiliary h (.inr rfl) 0x00

/-- The closing words deselect: the data word does not touch the image. -/
theorem imageAfter_auxClosing {P : Params} (h : P.Admissible) (old : Byte) :
    imageAfter P.auxaBase old (auxClosing P) = 0xFF :=
  imageAfter_self_append_others P.auxaBase old deselect [] [w8 P.auxdBase 0x00] (base_aligned h (g := .auxa) rfl)
    fun w hw => by rw [List.mem_singleton.1 hw]; exact (unselecting_auxd h 0x00).2.2

/-- On top of its class an answered status read raises `Generic` for a bad validity byte, and nothing else (R131). -/
theorem statusResult_raises (P : Params) (r : StatusReply) :
    (commandClass r.transport).flag ||| (statusResult P r).1.flag = (commandClass r.transport).flag |||
      (if r.transport = .ok ∧ validOf P r.bytes[0] = false then 0x20 else 0) := by
  rw [statusResult_flags]
  split
  next h => rw [h.1]; rfl
  next => exact BitVec.or_zero.symm

/-- The value of an auxiliary read, from its status reply: the temperature field of a good response, else 0. -/
theorem statusResult_temperature (P : Params) (r : StatusReply) :
    (statusResult P r).2.temperature.setWidth 32 = if r.transport = .ok ∧ validOf P r.bytes[0] = true then
      (tempOf P r.bytes[8] r.bytes[9]).setWidth 32 else 0 := by
  rw [statusResult_value]
  split <;> rfl

/-- An answered read of auxiliary address `a` is five transactions, then the answer; on top of the five classes `err` has
`Generic` for a bad validity byte, and the auxiliary address is left deselected. -/
theorem State.readAux_ran {s : State} {a : Byte} {r : StatusReply} {rs : List ResultClass} (hi : s.outstanding = none)
    (hP : s.cfg.Admissible) (ha : s.replies.classes (auxReadXfers s.cfg a) = some rs)
    (hr : s.replies.status 0 = some r) :
    ∃ u, s.readAux a = u.respond ((statusResult s.cfg r).2.temperature.setWidth 32) ∧
      Ran s u (auxReadXfers s.cfg a) rs ∧
      u.err = s.err ||| (orFlags rs ||| if r.transport = .ok ∧ validOf s.cfg r.bytes[0] = false then 0x20 else 0) ∧
      u.selectors = (s.tsel, s.asel, 0xFF) := by
  rw [auxReadXfers_eq] at ha ⊢
  obtain ⟨rs₁, qs, rfl, h₁, hqs⟩ := Replies.classes_append_inv _ _ _ _ ha
  obtain ⟨rs₂, rs₃, rfl, h₂, h₃⟩ := Replies.classes_append_inv _ _ _ _ hqs
  have hrs₂ : rs₂ = [commandClass r.transport] := by
    have hc : (s.replies.afterAll (sent (auxOpening s.cfg a))).classOf .status = some (commandClass r.transport) :=
      congrArg (Option.map fun q : StatusReply => commandClass q.transport) hr
    rw [Replies.classes_singleton, hc] at h₂
    exact (Option.some.inj h₂).symm
  subst hrs₂
  obtain ⟨ran₁, err₁⟩ := State.emit_ran _ s rs₁ hi h₁
  have sel₁ := State.emit_selectors_of_auxiliary hi h₁ (inSpace_auxOpening hP a)
  have hst : (s.emit (auxOpening s.cfg a)).replies.status 0 = some r := by rw [ran₁.replies]; exact hr
  obtain ⟨ran₂, err₂, sel₂, hv⟩ := State.readStatus_ran ran₁.idle hst
  have cfg₂ := ran₂.cfg.trans ran₁.cfg
  have h₃' : Answered (s.emit (auxOpening s.cfg a)).readStatus.1 (sent (auxClosing s.cfg)) rs₃ := by
    rw [Answered, ran₂.replies, ran₁.replies]
    exact h₃
  obtain ⟨ran₃, err₃⟩ := State.emit_ran _ _ rs₃ ran₂.idle h₃'
  have sel₃ := State.emit_selectors_of_auxiliary ran₂.idle h₃' (by rw [cfg₂]; exact inSpace_auxClosing hP)
  refine ⟨(s.emit (auxOpening s.cfg a)).readStatus.1.emit (auxClosing s.cfg), ?answer, ran₁.trans (ran₂.trans ran₃),
    ?err, ?selectors⟩
  case answer => rw [State.readAux_eq, hv, ran₁.cfg]
  case err =>
    rw [err₃, err₂, err₁, ran₁.cfg, BitVec.or_assoc _ _ (statusResult s.cfg r).1.flag, statusResult_raises,
      orFlags_append, orFlags_append, orFlags_singleton]
    ac_rfl
  case selectors =>
    rw [sel₁] at sel₂
    simp only [State.selectors, Prod.mk.injEq] at sel₂
    rw [sel₃, cfg₂, imageAfter_auxClosing hP, sel₂.1, sel₂.2.1]

/-- Both temperature bytes as a number, where byte 8 is the low byte (20_memory R71). -/
theorem tempOf_byte8Low {P : Params} (h : P.tempOf = .byte8Low) (b8 b9 : Byte) :
    (tempOf P b8 b9).setWidth 32 = BitVec.ofNat 32 (b8.toNat + 256 * b9.toNat) := by
  have h8 := b8.isLt
  apply BitVec.eq_of_toNat_eq
  rw [tempOf, h, BitVec.toNat_setWidth, BitVec.toNat_append, ← Nat.shiftLeft_add_eq_or_of_lt h8, BitVec.toNat_ofNat,
    Nat.shiftLeft_eq]
  congr 1
  omega

/-- The four operations of the statement run the auxiliary read of their address. -/
theorem exec_of_mem_auxReads {s : State} {c : Cache} (h : Available s c) {i : Instr} {a : Byte}
    (hi : (i, a) ∈ [(Instr.read16 0x40, s.cfg.auxTemperature), (.read16 0x41, s.cfg.auxAdcType),
      (.getTemperatureAdu, s.cfg.auxTemperature), (.getTemperatureAdcType, s.cfg.auxAdcType)]) :
    exec i s = .next (s.begin.readAux a) := by
  simp only [List.mem_cons, Prod.mk.injEq, List.not_mem_nil, or_false] at hi
  rcases hi with ⟨rfl, rfl⟩ | ⟨rfl, rfl⟩ | ⟨rfl, rfl⟩ | ⟨rfl, rfl⟩
  · exact exec_read16_of_address h rfl
  · exact exec_read16_of_address h rfl
  · rw [exec, execGetTemperatureAdu, State.accept_of_available h]; rfl
  · rw [exec, execGetTemperatureAdcType, State.accept_of_available h]; rfl

/-- Settles O16: the law of the auxiliary read, with what its status reply raises and hands back. -/
theorem auxiliaryReadReturnsTemperatureField : Obligations.AuxiliaryReadReturnsTemperatureField := by
  intro s c i a r xs rs hr hmem hxs ha hst
  subst hxs
  obtain ⟨u, hu, hran, herr, hsel⟩ :=
    State.readAux_ran (s := s.begin) hr.1.1 hr.2 ha hst
  have hexec := (exec_of_mem_auxReads hr.1 hmem).trans (congrArg Host.Outcome.next hu)
  rw [statusResult_temperature, State.begin_cfg] at hexec
  replace herr := herr.trans BitVec.zero_or
  rw [State.begin_cfg] at herr
  have hem := hran.respond (if r.transport = .ok ∧ validOf s.cfg r.bytes[0] = true then
    (tempOf s.cfg r.bytes[8] r.bytes[9]).setWidth 32 else 0)
  refine ⟨_, hexec, hem, by rw [State.respond_err, herr], fun hvalid htemp hok => ?good, hran.untouched.respond _, ?_,
    by rw [State.respond_selectors, hsel]; rfl⟩
  case good =>
    have hv : validOf s.cfg r.bytes[0] = true := by rw [validOf, hvalid]
    refine ⟨by rw [State.respond_err, herr]; simp [hv], ?_⟩
    rw [hem.rsp, if_pos ⟨hok, hv⟩, tempOf_byte8Low htemp]
  · rw [State.respond_cache, hran.cache]
    exact hr.1.2

/-- Settles O17: which of the two classes is raised is the test of the write-only families. -/
theorem read16OtherIdsEmitNothing : Obligations.Read16OtherIdsEmitNothing := by
  intro s c id h
  refine ⟨fun hid => ?writeOnly, fun hid => ?unknown⟩
  case writeOnly =>
    have hw : writeOnlyId s.cfg id = true := by
      rw [writeOnlyId_iff]
      simp only [List.mem_cons, List.not_mem_nil, or_false, ← BitVec.toNat_inj, BitVec.reduceToNat] at hid
      omega
    have ha : auxAddress s.cfg id = none := by
      refine auxAddress_eq_none ?_ ?_ <;> (rintro rfl; revert hid; decide)
    have hx := exec_read16_of_none h ha
    rw [if_pos hw] at hx
    exact answers_of_raise h hx
  case unknown =>
    simp only [List.mem_cons, List.not_mem_nil, or_false, ← BitVec.toNat_inj, BitVec.reduceToNat] at hid
    have hw : ¬ writeOnlyId s.cfg id = true := by
      rw [writeOnlyId_iff]
      omega
    have ha : auxAddress s.cfg id = none := by
      refine auxAddress_eq_none ?_ ?_ <;> (rintro rfl; simp at hid)
    have hx := exec_read16_of_none h ha
    rw [if_neg hw] at hx
    exact answers_of_raise h hx

end Sys2Proof.Machine
end

section
/-! The Register Access Layer and the cache (41_register_access R141): the raw operations and the body of ENCODE_AND_SEND
neither read nor write the cache (O18, O60). All of it says that an action commutes with replacing the cache; that it keeps
the cache follows. -/

namespace Sys2Proof.Machine

open Sys2Proof.Config

/-! ### Replacing the cache -/

/-- The state over another cache, or none. -/
def State.withCache (s : State) (k : Option Cache) : State := { s with cache := k }

section WithCache

variable (s : State) (k : Option Cache)

@[simp] theorem State.withCache_cfg : (s.withCache k).cfg = s.cfg := rfl
@[simp] theorem State.withCache_blocked : (s.withCache k).blocked = s.blocked := rfl

theorem State.withCache_begin : (s.withCache k).begin = s.begin.withCache k := rfl

theorem State.withCache_raise (r : ResultClass) : (s.withCache k).raise r = (s.raise r).withCache k := rfl

/-- A guarded action commutes with the replacement if the action does. -/
theorem State.withCache_onward {f : State → State} (hf : f (s.withCache k) = (f s).withCache k) :
    (s.withCache k).onward f = (s.onward f).withCache k := by
  unfold State.onward
  rw [State.withCache_blocked]
  split
  · rfl
  · exact hf

theorem State.withCache_respond (v : Word32) : (s.withCache k).respond v = (s.respond v).withCache k :=
  s.withCache_onward k rfl

theorem State.withCache_takeCommandReply :
    (s.withCache k).takeCommandReply = (s.takeCommandReply.1, s.takeCommandReply.2.withCache k) := by
  simp only [State.takeCommandReply, State.withCache]
  cases s.env.cmd <;> rfl

theorem State.withCache_takeStatusReply :
    (s.withCache k).takeStatusReply = (s.takeStatusReply.1, s.takeStatusReply.2.withCache k) := by
  simp only [State.takeStatusReply, State.withCache]
  cases s.env.status <;> rfl

theorem State.withCache_send (w : CmdWord) : (s.withCache k).send w = (s.send w).withCache k := by
  refine s.withCache_onward k ?_
  rw [State.withCache_takeCommandReply]
  obtain ⟨reply, u⟩ := s.takeCommandReply
  cases reply <;> rfl

theorem State.withCache_readStatus :
    (s.withCache k).readStatus = (s.readStatus.1.withCache k, s.readStatus.2) := by
  unfold State.readStatus
  rw [State.withCache_blocked, State.withCache_takeStatusReply]
  split
  · rfl
  · obtain ⟨reply, u⟩ := s.takeStatusReply
    cases reply <;> rfl

end WithCache

theorem State.withCache_emit (ws : List CmdWord) : ∀ (s : State) (k : Option Cache),
    (s.withCache k).emit ws = (s.emit ws).withCache k := by
  induction ws with
  | nil => intro s k; rfl
  | cons w ws ih =>
    intro s k
    have hcons : ∀ u : State, u.emit (w :: ws) = (u.send w).emit ws := fun _ => rfl
    rw [hcons, hcons, State.withCache_send, ih]

theorem State.withCache_encodeAndSend (s : State) (k : Option Cache) (flags : Cache) :
    (s.withCache k).encodeAndSend flags = (s.encodeAndSend flags).withCache k :=
  State.withCache_emit _ s k

theorem State.withCache_readAux (s : State) (k : Option Cache) (a : Byte) :
    (s.withCache k).readAux a = (s.readAux a).withCache k := by
  rw [State.readAux_eq, State.readAux_eq, State.withCache_cfg, State.withCache_emit, State.withCache_readStatus,
    State.withCache_emit, State.withCache_respond]

/-! ### Operations that do not use the cache -/

/-- Where `o` is a next state, `o'` is the same state over the cache `k`. -/
def SameOver (k : Option Cache) (o o' : Host.Outcome State Fault Refusal) : Prop :=
  ∀ t, o = .next t → o' = .next (t.withCache k)

theorem sameOver_next {k : Option Cache} {u u' : State} (h : u' = u.withCache k) : SameOver k (.next u) (.next u') := by
  rintro _ ⟨⟩
  rw [h]

/-- Raising an error and answering is the same over any cache. -/
theorem sameOver_raise (s : State) (k : Option Cache) (r : ResultClass) :
    SameOver k (.next ((s.raise r).respond 0)) (.next (((s.withCache k).raise r).respond 0)) :=
  sameOver_next (by rw [State.withCache_raise, State.withCache_respond])

/-- Sending a list of words and answering is the same over any cache. -/
theorem sameOver_emit (s : State) (k : Option Cache) (ws : List CmdWord) :
    SameOver k (.next ((s.emit ws).respond 0)) (.next (((s.withCache k).emit ws).respond 0)) :=
  sameOver_next (by rw [State.withCache_emit, State.withCache_respond])

/-- An operation whose body is the same over any cache keeps the cache and is the same over any other. -/
theorem accept_sameOver {body : State → Host.Outcome State Fault Refusal}
    (hb : ∀ (s : State) (k : Option Cache), SameOver k (body s) (body (s.withCache k))) {s t : State}
    (h : s.accept (fun _ => body) = .next t) :
    t.cache = s.cache ∧ ∀ c, (s.withCache (some c)).accept (fun _ => body) = .next (t.withCache (some c)) := by
  obtain ⟨c₀, ⟨hi, -⟩, ht⟩ := State.accept_next h
  refine ⟨?keeps, fun c => ?same⟩
  case keeps =>
    have hself : body s.begin = .next (t.withCache s.cache) := hb s.begin s.cache t ht
    rw [ht] at hself
    have hts : t = t.withCache s.cache := Host.Outcome.next.inj hself
    exact (congrArg State.cache hts :)
  case same =>
    have hc : Available (s.withCache (some c)) c := ⟨hi, rfl⟩
    rw [State.accept_of_available hc, State.withCache_begin]
    exact hb s.begin (some c) t ht

/-- The four raw operations keep the cache and are the same over any other (R141). -/
theorem raw_sameOver {s t : State} {i : Instr} {id : Byte} {d : Bool} {v : Half} {u : Word32}
    (hi : i ∈ [Instr.writeBit id d, .write16 id v, .write32 id u, .read16 id]) (h : exec i s = .next t) :
    t.cache = s.cache ∧ ∀ c, exec i (s.withCache (some c)) = .next (t.withCache (some c)) := by
  simp only [List.mem_cons, List.not_mem_nil, or_false] at hi
  rcases hi with rfl | rfl | rfl | rfl
  · unfold exec execWriteBit at h ⊢
    refine accept_sameOver (fun s k => ?_) h
    rw [State.withCache_cfg]
    cases bitIndex s.cfg id with
    | none => exact sameOver_raise s k _
    | some idx => exact sameOver_emit s k [ctlWord s.cfg idx d]
  · unfold exec execWrite16 at h ⊢
    refine accept_sameOver (fun s k => ?_) h
    cases reg16Of id with
    | none => exact sameOver_raise s k _
    | some r => exact sameOver_emit s k (write16Words s.cfg r v)
  · unfold exec execWrite32 at h ⊢
    refine accept_sameOver (fun s k => ?_) h
    split
    · exact sameOver_emit s k (write32Words s.cfg u)
    · exact sameOver_raise s k _
  · unfold exec execRead16 at h ⊢
    refine accept_sameOver (fun s k => ?_) h
    rw [State.withCache_cfg]
    cases auxAddress s.cfg id with
    | some a => exact sameOver_next (s.withCache_readAux k a)
    | none =>
      dsimp only
      split
      · exact sameOver_raise s k _
      · exact sameOver_raise s k _

/-- What `ENCODE_AND_SEND` answers with: its body on the cache's own flags (42_sensor_word R173). -/
theorem exec_encodeAndSend {s : State} {c : Cache} (h : Available s c) :
    exec .encodeAndSend s = .next ((s.begin.encodeAndSend c).respond 0) := by
  rw [exec, execEncodeAndSend, State.accept_of_available h]

/-- Where it answers, XCP was open and idle. -/
theorem available_of_encodeAndSend {s t : State} (h : exec .encodeAndSend s = .next t) : ∃ c, Available s c := by
  rw [exec, execEncodeAndSend] at h
  obtain ⟨c, hc, -⟩ := State.accept_next h
  exact ⟨c, hc⟩

/-- `ENCODE_AND_SEND` writes no cache field. -/
theorem encodeAndSend_keeps_cache {s t : State} (h : exec .encodeAndSend s = .next t) : t.cache = s.cache := by
  obtain ⟨c, hc⟩ := available_of_encodeAndSend h
  rw [exec_encodeAndSend hc] at h
  cases h
  obtain ⟨-, -, hcache, -⟩ := State.emit_keeps (encodeWords s.begin.cfg c) s.begin
  rw [State.respond_cache]
  exact hcache

/-- Settles O18: the four raw operations are the same over any cache, and `ENCODE_AND_SEND` keeps it. -/
theorem rawOperationsKeepTheCache : Obligations.RawOperationsKeepTheCache := by
  intro s t id d v u i h
  refine ⟨fun hi => ?_, fun hi c => (raw_sameOver hi h).2 c⟩
  rcases List.mem_append (s := [Instr.writeBit id d, .write16 id v, .write32 id u, .read16 id])
    (t := [.encodeAndSend]) |>.1 hi with hraw | henc
  · exact (raw_sameOver hraw h).1
  · rw [List.mem_singleton.1 henc] at h
    exact encodeAndSend_keeps_cache h

/-! ### The flags of ENCODE_AND_SEND -/

/-- Settles O60: the body commutes with replacing the cache; the request's words are those of the packed flags, which
caches that agree in `c[0]` to `c[14]` share. -/
theorem encodeAndSendBodyIgnoresTheCache : Obligations.EncodeAndSendBodyIgnoresTheCache := by
  refine ⟨fun s flags k => s.withCache_encodeAndSend k flags, ?request⟩
  intro s t c d hc h gain xinv yinv linerepeat refout reset skim power current bias bandwidth outputfactor itr
    multiplereadouts nondestructive
  have hpack : pack d = pack c := by
    simp only [pack, gain, xinv, yinv, linerepeat, refout, reset, skim, power, current, bias, bandwidth, outputfactor,
      itr, multiplereadouts, nondestructive]
  have hbody : ∀ u : State, u.encodeAndSend d = u.encodeAndSend c := fun u => by
    rw [State.encodeAndSend, State.encodeAndSend, encodeWords, encodeWords, hpack]
  obtain ⟨-, hi, -⟩ := available_of_encodeAndSend h
  rw [exec_encodeAndSend ⟨hi, hc⟩] at h
  cases h
  have hd : Available (s.withCache (some d)) d := ⟨hi, rfl⟩
  refine (exec_encodeAndSend hd).trans (congrArg Host.Outcome.next ?_)
  rw [hbody, State.withCache_begin, State.withCache_encodeAndSend, State.withCache_respond]
  rfl

end Sys2Proof.Machine
end

section
/-! The Sensor Command-Word Encoder (42_sensor_word R170 to R174): what the packed word keeps of the cache (O23), read off
its layout (O22), and the words of ENCODE_AND_SEND (O24). -/

namespace Sys2Proof.Machine

/-! ### What the packed word keeps -/

/-- A mask of `m` ones keeps a level modulo `2 ^ m` (30_encoding R107). -/
theorem toNat_and_mask {mask : Word32} {m : Nat} (hm : mask.toNat = 2 ^ m - 1) (x : Word32) :
    (x &&& mask).toNat = x.toNat % 2 ^ m := by
  rw [BitVec.toNat_and, hm, Nat.and_two_pow_sub_one_eq_mod]

/-- Levels that agree modulo `2 ^ m` are masked alike. -/
theorem and_mask_eq_of_mod_eq {mask : Word32} {m : Nat} (hm : mask.toNat = 2 ^ m - 1) {x y : Word32}
    (h : x.toNat % 2 ^ m = y.toNat % 2 ^ m) : x &&& mask = y &&& mask :=
  BitVec.eq_of_toNat_eq (by rw [toNat_and_mask hm, toNat_and_mask hm, h])

/-- A level whose low `m` bits stand at `n` in `p` is read from there modulo `2 ^ m`. -/
theorem mod_eq_of_extractLsb'_eq {p x : Word32} {n m : Nat} (h : p.extractLsb' n m = x.extractLsb' 0 m) :
    x.toNat % 2 ^ m = (p.extractLsb' n m).toNat := by
  rw [h, BitVec.extractLsb'_toNat, Nat.shiftRight_zero]

/-- What `pack` keeps of a cache, each as a function of the packed word alone (R172 (f), (g)). -/
theorem fields_of_pack (f : Cache) :
    f.gain = (pack f).getLsbD 28 ∧ f.xinv = !(pack f).getLsbD 7 ∧ f.yinv = !(pack f).getLsbD 6 ∧
      f.linerepeat = (pack f).getLsbD 5 ∧ f.refout = (pack f).getLsbD 2 ∧ f.reset = (pack f).getLsbD 1 ∧
      f.skim = (pack f).getLsbD 0 ∧ f.itr = (pack f).getLsbD 29 ∧ f.multiplereadouts = (pack f).getLsbD 17 ∧
      f.nondestructive = (pack f).getLsbD 16 ∧ f.power.toNat % 4 = ((pack f).extractLsb' 26 2).toNat ∧
      f.current.toNat % 8 = ((pack f).extractLsb' 23 3).toNat ∧
      f.bias.toNat % 8 = ((pack f).extractLsb' 20 3).toNat ∧
      f.bandwidth.toNat % 4 = ((pack f).extractLsb' 18 2).toNat ∧
      ofCode f.outputfactor = ((pack f).extractLsb' 3 2).setWidth 32 := by
  obtain ⟨-, -, itr, gain, power, current, bias, bandwidth, multiplereadouts, nondestructive, -, xinv, yinv, linerepeat,
    outputfactor, refout, reset, skim⟩ := packedWordLayout f
  have hcode : ofCode f.outputfactor = ((pack f).extractLsb' 3 2).setWidth 32 := by
    rw [outputfactor, ofCode]
    split_ifs <;> rfl
  exact ⟨gain.symm, by rw [xinv, Bool.not_not], by rw [yinv, Bool.not_not], linerepeat.symm, refout.symm, reset.symm,
    skim.symm, itr.symm, multiplereadouts.symm, nondestructive.symm, mod_eq_of_extractLsb'_eq power,
    mod_eq_of_extractLsb'_eq current, mod_eq_of_extractLsb'_eq bias, mod_eq_of_extractLsb'_eq bandwidth, hcode⟩

/-- Settles O23: one packed word gives one value of each field; fields that agree are masked, coded and packed alike. -/
theorem packingLosesOnlyMaskedBits : Obligations.PackingLosesOnlyMaskedBits := by
  intro c d
  constructor
  · intro h
    simp only [fields_of_pack, h, and_self]
  · rintro ⟨gain, xinv, yinv, linerepeat, refout, reset, skim, itr, multiplereadouts, nondestructive, power, current, bias,
      bandwidth, outputfactor⟩
    have hpower : c.power &&& 3 = d.power &&& 3 := and_mask_eq_of_mod_eq (m := 2) rfl power
    have hcurrent : c.current &&& 7 = d.current &&& 7 := and_mask_eq_of_mod_eq (m := 3) rfl current
    have hbias : c.bias &&& 7 = d.bias &&& 7 := and_mask_eq_of_mod_eq (m := 3) rfl bias
    have hbandwidth : c.bandwidth &&& 3 = d.bandwidth &&& 3 := and_mask_eq_of_mod_eq (m := 2) rfl bandwidth
    rw [pack, pack, gain, xinv, yinv, linerepeat, refout, reset, skim, itr, multiplereadouts, nondestructive, hpower,
      hcurrent, hbias, hbandwidth, outputfactor]

/-! ### ENCODE_AND_SEND (R173, R174) -/

/-- Settles O24: the body emits the words of `encodeWords` for the cache, and no selector sees them. -/
theorem encodeAndSendWritesTheWordTwice : Obligations.EncodeAndSendWritesTheWordTwice := by
  intro s c xs rs hr hxs ha
  have hws : xs = sent (encodeWords s.cfg c) := by
    rw [hxs, encodeWords, write32Words, List.append_assoc (_ ++ _) _ (value32 _ _)]
  subst hws
  exact executes_of_emit_unselecting hr.1 (exec_encodeAndSend hr.1) ha (unselecting_encodeWords hr.2 c)

end Sys2Proof.Machine
end

section
/-! The Frame-Timing Controller (43_frame_timing R180 to R186): the integer rate test against the real comparison (O27), the
windows that always need a delay (O28), the rounding of the delay (O29), and what SET_FRAME_RATE refuses (O26) and sends
(O25). -/

namespace Sys2Proof.Machine

open Sys2Proof.Config

/-! ### The cached window (R181) -/

theorem windowWidth_nonpos_iff (c : Cache) : windowWidth c ≤ 0 ↔ c.woiXe.toNat < c.woiXs.toNat := by
  unfold windowWidth
  omega

theorem windowHeight_nonpos_iff (c : Cache) : windowHeight c ≤ 0 ↔ c.woiYe.toNat < c.woiYs.toNat := by
  unfold windowHeight
  omega

theorem windowWidth_toNat {c : Cache} (h : c.woiXs.toNat ≤ c.woiXe.toNat) :
    (windowWidth c).toNat = c.woiXe.toNat - c.woiXs.toNat + 1 := by
  unfold windowWidth
  omega

theorem windowHeight_toNat {c : Cache} (h : c.woiYs.toNat ≤ c.woiYe.toNat) :
    (windowHeight c).toNat = c.woiYe.toNat - c.woiYs.toNat + 1 := by
  unfold windowHeight
  omega

/-- A window that meets the invariant of 70_reset_and_hazards R303 is at most the full frame (R185 (b)). -/
theorem window_area_le {c : Cache} (hxe : c.woiXe.toNat < 320) (hye : c.woiYe.toNat < 256) :
    (windowWidth c).toNat * (windowHeight c).toNat ≤ 81920 := by
  have hw : (windowWidth c).toNat ≤ 320 := by unfold windowWidth; omega
  have hh : (windowHeight c).toNat ≤ 256 := by unfold windowHeight; omega
  exact Nat.mul_le_mul hw hh

/-! ### The rate test (R182) -/

theorem rateReached_iff (hz area : Nat) :
    rateReached hz area = true ↔ 6220025 ^ 5000 ≤ (12 * hz) ^ 5000 * area ^ 3181 :=
  decide_eq_true_iff

/-- A lower rate over a smaller window is reached only if the higher one over the larger window is. -/
theorem rateReached_mono {hz hz' area area' : Nat} (hhz : hz ≤ hz') (harea : area ≤ area')
    (h : rateReached hz area = true) : rateReached hz' area' = true := by
  rw [rateReached_iff] at h ⊢
  calc 6220025 ^ 5000 ≤ (12 * hz) ^ 5000 * area ^ 3181 := h
    _ ≤ (12 * hz') ^ 5000 * area' ^ 3181 := by gcongr

/-- The full frame at the highest rate needs a delay (R185 (a)). -/
theorem rateReached_fullFrame : rateReached 350 81920 = false := by decide +kernel

/-- Comparing with a rational power is comparing naturals, both sides raised to its denominator (R182). -/
theorem le_mul_rpow_div_iff (x y a p : Nat) {q : Nat} (hq : q ≠ 0) :
    (x : ℝ) ≤ y * (a : ℝ) ^ ((p : ℝ) / q) ↔ x ^ q ≤ y ^ q * a ^ p := by
  have hroot : ((a : ℝ) ^ ((p : ℝ) / q)) ^ q = (a : ℝ) ^ p := by
    rw [← Real.rpow_mul_natCast a.cast_nonneg, div_mul_cancel₀ _ (Nat.cast_ne_zero.2 hq), Real.rpow_natCast]
  have hright : 0 ≤ (y : ℝ) * (a : ℝ) ^ ((p : ℝ) / q) := by positivity
  rw [← pow_le_pow_iff_left₀ x.cast_nonneg hright hq, mul_pow, hroot]
  exact_mod_cast Iff.rfl

/-- Settles O27: the formula of R181 with its denominators cleared, as a comparison with a rational power. -/
theorem rateTestIsTheRealComparison : Obligations.RateTestIsTheRealComparison := by
  intro hz area _ harea
  have hpow : 0 < (area : ℝ) ^ (0.6362 : ℝ) := Real.rpow_pos_of_pos (Nat.cast_pos.2 harea) _
  have hexp : (0.6362 : ℝ) = ((3181 : Nat) : ℝ) / (5000 : Nat) := by norm_num
  rw [rateReached_iff, ← le_mul_rpow_div_iff 6220025 (12 * hz) area 3181 (q := 5000) (by decide), ← hexp,
    Real.rpow_neg area.cast_nonneg, mul_right_comm, ← div_eq_mul_inv, div_le_iff₀ hpow, Nat.cast_mul]
  push_cast
  constructor <;> intro h <;> linarith

/-- Settles O28: the full frame at 350 Hz is the case nearest to needing no delay. -/
theorem validWindowsAlwaysUseADelay : Obligations.ValidWindowsAlwaysUseADelay := by
  intro c hz _ _ hxe _ hye
  have hcap : cappedRate hz ≤ 350 := Nat.min_le_right hz 350
  have hreached : ¬ rateReached (cappedRate hz) ((windowWidth c).toNat * (windowHeight c).toNat) = true := fun h =>
    Bool.false_ne_true (rateReached_fullFrame.symm.trans (rateReached_mono hcap (window_area_le hxe hye) h))
  rw [useDelay, Bool.eq_false_of_not_eq_true hreached]
  rfl

/-! ### The delay (R183) -/

/-- Rounding a quotient of naturals to the nearest integer, halves up, by its remainder. -/
theorem two_mul_add_div_two_mul (n : Nat) {d : Nat} (hd : 0 < d) :
    (2 * n + d) / (2 * d) = n / d + if d ≤ 2 * (n % d) then 1 else 0 := by
  have hn := Nat.div_add_mod n d
  have hr := Nat.mod_lt n hd
  have hsplit : 2 * n + d = (2 * (n % d) + d) + 2 * d * (n / d) := by
    rw [Nat.mul_assoc]
    omega
  rw [hsplit, Nat.add_mul_div_left _ _ (by omega), Nat.add_comm]
  congr 1
  split_ifs with hhalf
  · exact Nat.div_eq_of_lt_le (by omega) (by omega)
  · exact Nat.div_eq_of_lt (by omega)

theorem floor_div_add_half (n : Nat) {d : Nat} (hd : 0 < d) :
    ⌊(n : ℚ) / d + 1 / 2⌋ = ((n / d + if d ≤ 2 * (n % d) then 1 else 0 : Nat) : ℤ) := by
  have hd' : (d : ℚ) ≠ 0 := Nat.cast_ne_zero.2 hd.ne'
  have hquot : (n : ℚ) / d + 1 / 2 = ((2 * n + d : Nat) : ℚ) / ((2 * d : Nat) : ℚ) := by
    push_cast
    field_simp
  rw [hquot, Rat.floor_natCast_div_natCast, ← Int.natCast_ediv, two_mul_add_div_two_mul n hd]

/-- Settles O29: the model's quotient and remainder are the rounding, and the clamp is the same. -/
theorem frameDelayRoundsToNearest : Obligations.FrameDelayRoundsToNearest := by
  intro hz hpos
  have hround := floor_div_add_half 1000000 hpos
  rw [Nat.cast_ofNat] at hround
  rw [hround, frameDelay, Nat.cast_min, Nat.cast_ofNat]

/-! ### The words of SET_FRAME_RATE (R184) -/

theorem hi8_ofNat (n : Nat) : hi8 (BitVec.ofNat 16 n) = BitVec.ofNat 8 (n / 256) := by
  apply BitVec.eq_of_toNat_eq
  rw [hi8_toNat, BitVec.toNat_ofNat, BitVec.toNat_ofNat]
  omega

theorem lo8_ofNat (n : Nat) : lo8 (BitVec.ofNat 16 n) = BitVec.ofNat 8 (n % 256) := by
  apply BitVec.eq_of_toNat_eq
  rw [lo8_toNat, BitVec.toNat_ofNat, BitVec.toNat_ofNat]
  omega

/-- The words with the delay's bytes written out, high byte first. -/
theorem frameRateWords_eq (P : Params) (delayed : Bool) (hz : Nat) : frameRateWords P delayed hz =
    (if delayed then
      [w8 P.auxaBase P.auxDelayHi, w8 P.auxdBase (BitVec.ofNat 8 (frameDelay hz / 256)), w8 P.auxaBase 0xFF,
        w8 P.auxaBase P.auxDelayLo, w8 P.auxdBase (BitVec.ofNat 8 (frameDelay hz % 256)), w8 P.auxaBase 0xFF]
    else []) ++ [ctlWord P P.idxDelayEn delayed] := by
  rw [frameRateWords, hi8_ofNat, lo8_ofNat]
  rfl

/-- The timing and extended selectors see no word of an auxiliary write (41_register_access R153). -/
theorem inSpace_auxWrite {P : Params} (h : P.Admissible) (a b : Byte) :
    ∀ w ∈ auxWrite P a b, inSpace P.tselBase w = false ∧ inSpace P.aselBase w = false := by
  intro w hw
  simp only [auxWrite, List.mem_cons, List.not_mem_nil, or_false] at hw
  rcases hw with rfl | rfl | rfl
  · exact inSpace_of_auxiliary h (.inl rfl) a
  · exact inSpace_of_auxiliary h (.inr rfl) b
  · exact inSpace_of_auxiliary h (.inl rfl) deselect

/-- Nor do they see any other word of SET_FRAME_RATE. -/
theorem inSpace_frameRateWords {P : Params} (h : P.Admissible) (delayed : Bool) (hz : Nat) :
    ∀ w ∈ frameRateWords P delayed hz, inSpace P.tselBase w = false ∧ inSpace P.aselBase w = false := by
  have henable := unselecting_ctl h (ctlPayloadOf P P.idxDelayEn delayed)
  intro w hw
  rcases List.mem_append.1 hw with hdelay | hlast
  · cases delayed with
    | false => cases hdelay
    | true => exact (List.mem_append.1 hdelay).elim (inSpace_auxWrite h _ _ w) (inSpace_auxWrite h _ _ w)
  · rw [List.mem_singleton.1 hlast]
    exact ⟨henable.1, henable.2.1⟩

/-- The delay registers are left deselected; the enable word alone does not touch the auxiliary address. -/
theorem imageAfter_frameRateWords {P : Params} (h : P.Admissible) (delayed : Bool) (hz : Nat) (old : Byte) :
    imageAfter P.auxaBase old (frameRateWords P delayed hz) = if delayed then 0xFF else old := by
  have henable : ∀ w ∈ [ctlWord P P.idxDelayEn delayed], inSpace P.auxaBase w = false := fun w hw => by
    rw [List.mem_singleton.1 hw]
    exact (unselecting_ctl h (ctlPayloadOf P P.idxDelayEn delayed)).2.2
  cases delayed with
  | false => exact imageAfter_of_others _ _ _ henable
  | true =>
    exact imageAfter_self_append_others P.auxaBase old deselect
      (auxWrite P P.auxDelayHi (hi8 (BitVec.ofNat 16 (frameDelay hz)))
        ++ [w8 P.auxaBase P.auxDelayLo, w8 P.auxdBase (lo8 (BitVec.ofNat 16 (frameDelay hz)))])
      [ctlWord P P.idxDelayEn true] (base_aligned h (g := .auxa) rfl) henable

/-! ### Running SET_FRAME_RATE (R180, R186) -/

section Running

variable {s : State} {c : Cache} {hz : Nat}

theorem exec_setFrameRate_zero (h : Available s c) : exec (.setFrameRate 0) s = .refused .zeroFrameRate := by
  rw [exec, execSetFrameRate, State.accept_of_available h, if_pos rfl]

theorem exec_setFrameRate_inverted (h : Available s c) (hpos : 0 < hz)
    (hinv : windowWidth c ≤ 0 ∨ windowHeight c ≤ 0) : exec (.setFrameRate hz) s = .refused .invertedWindow := by
  rw [exec, execSetFrameRate, State.accept_of_available h, if_neg hpos.ne', if_pos hinv]

theorem exec_setFrameRate (h : Available s c) (hpos : 0 < hz) (hwin : ¬ (windowWidth c ≤ 0 ∨ windowHeight c ≤ 0)) :
    exec (.setFrameRate hz) s
      = .next (((s.begin.emit (frameRateWords s.cfg (useDelay c (cappedRate hz)) (cappedRate hz))).storeCache
          { c with frameHz := BitVec.ofNat 16 (cappedRate hz) }).respond 0) := by
  rw [exec, execSetFrameRate, State.accept_of_available h, if_neg hpos.ne', if_neg hwin, State.begin_cfg]

end Running

/-- Settles O26: the window is inverted exactly when its width or its height is not positive. -/
theorem setFrameRateRefusedInputs : Obligations.SetFrameRateRefusedInputs := by
  intro s c hz h
  refine ⟨fun hzero => by rw [hzero, exec_setFrameRate_zero h], fun hpos hinv => ?_⟩
  rw [← windowWidth_nonpos_iff, ← windowHeight_nonpos_iff] at hinv
  exact exec_setFrameRate_inverted h hpos hinv

/-- Settles O25: the words are those of the model, and of the selectors they move the auxiliary address alone. -/
theorem setFrameRateProgramsTheDelay : Obligations.SetFrameRateProgramsTheDelay := by
  intro s c hz hz' delay delayed xs rs ⟨h, hP⟩ hpos hx hy hhz hdelayed hdelay hxs ha
  have hwin : ¬ (windowWidth c ≤ 0 ∨ windowHeight c ≤ 0) := by
    rw [windowWidth_nonpos_iff, windowHeight_nonpos_iff]
    omega
  have hcap : cappedRate hz = hz' := hhz.symm
  have huse : useDelay c hz' = delayed := by
    rw [useDelay, windowWidth_toNat hx, windowHeight_toNat hy, hdelayed]
  have hws : xs = sent (frameRateWords s.cfg delayed hz') := by
    rw [hxs, frameRateWords_eq, hdelay, frameDelay]
  have hexec := exec_setFrameRate h hpos hwin
  rw [hcap, huse] at hexec
  subst hws
  obtain ⟨hem, herr, hun, hcache, hsel⟩ :=
    State.emit_store_respond_completed h ha { c with frameHz := BitVec.ofNat 16 hz' } 0
  have hothers := inSpace_frameRateWords hP delayed hz'
  rw [imageAfter_frameRateWords hP, imageAfter_of_others _ _ _ fun w hw => (hothers w hw).1,
    imageAfter_of_others _ _ _ fun w hw => (hothers w hw).2] at hsel
  exact ⟨_, ⟨hexec, hem, herr, hun⟩, hcache, hsel⟩

end Sys2Proof.Machine
end

section
/-! The setters of the Capture State Machine (44_capture): the capture mode (O30), the window (O31), the integration
time (O32, O33) and the fifteen flag setters (O36 to O38). A setter is words, a cache write and, for some, a settle;
where the environment answers the words, the cache may as well be written before them, so a setter that settles is
words and a settle over its new cache. -/

namespace Sys2Proof.Machine

open Sys2Proof.Config

/-! ### Words, then the cache -/

/-- An operation that sends words no selector sees, writes the cache and answers. -/
theorem executes_of_emit_storeCache {s : State} {c c' : Cache} (h : Available s c) {i : Instr} {ws : List CmdWord}
    {rs : List ResultClass} (hx : exec i s = .next (((s.begin.emit ws).storeCache c').respond 0))
    (ha : Answered s (sent ws) rs) (hw : ∀ w ∈ ws, Unselecting s.cfg w) :
    ∃ t, Executes i s t (sent ws) rs 0 ∧ t.cache = some c' ∧ t.selectors = s.selectors := by
  obtain ⟨hem, herr, hun, hcache, hsel⟩ := State.emit_store_respond_completed h ha c' 0
  exact ⟨_, ⟨hx, hem, herr, hun⟩, hcache, hsel.trans (images_of_unselecting hw)⟩

/-- Changing the capture state after transactions changes the capture state only. -/
theorem Ran.storeCstate {s t : State} {xs : List Xfer} {rs : List ResultClass} (h : Ran s t xs rs) (q : CaptureState) :
    Ran { s with cstate := q } (t.storeCstate q) xs rs where
  len := h.len
  trace := by rw [State.storeCstate_trace, h.trace]
  seq := by rw [State.storeCstate_seq, h.seq]
  idle := by rw [State.storeCstate_outstanding, h.idle]
  replies := (State.storeCstate_replies _ _).trans h.replies
  cfg := by rw [State.storeCstate_cfg, h.cfg]
  reqs := by rw [State.storeCstate_reqs, h.reqs]
  cache := by rw [State.storeCstate_cache, h.cache]
  cstate := State.storeCstate_cstate_of_idle _ _ h.idle
  framelog := by rw [State.storeCstate_framelog, h.framelog]
  buf := by rw [State.storeCstate_buf, h.buf]
  rsp := by rw [State.storeCstate_rsp, h.rsp]

@[simp] theorem State.storeCstate_selectors (s : State) (q : CaptureState) :
    (s.storeCstate q).selectors = s.selectors := by
  simp [State.selectors]

/-! ### SET_CAPTURE_MODE (R195) -/

/-- The words of SET_CAPTURE_MODE: continuous on, then external trigger off. -/
def captureModeWords (P : Params) : List CmdWord := [ctlWord P P.idxContinuous true, ctlWord P P.idxExttrig false]

theorem unselecting_captureModeWords {P : Params} (h : P.Admissible) : ∀ w ∈ captureModeWords P, Unselecting P w := by
  intro w hw
  simp only [captureModeWords, List.mem_cons, List.not_mem_nil, or_false] at hw
  rcases hw with rfl | rfl
  · exact unselecting_ctl h _
  · exact unselecting_ctl h _

theorem exec_setCaptureMode {s : State} {c : Cache} (h : Available s c) :
    exec .setCaptureMode s = .next ((((s.begin.emit (captureModeWords s.cfg)).storeCache
      { c with continuous := true, exttrig := false }).storeCstate .configured).respond 0) := by
  rw [exec, execSetCaptureMode, State.accept_of_available h]
  rfl

/-- Settles O30: two words, then the cache, then the capture state. -/
theorem setCaptureModeConfigures : Obligations.SetCaptureModeConfigures := by
  intro s c xs rs ⟨h, hP⟩ hxs ha
  subst hxs
  obtain ⟨hran, herr⟩ := State.begin_emit_ran h.1 ha
  have hsel : (s.begin.emit (captureModeWords s.cfg)).selectors = s.selectors :=
    (State.begin_emit_selectors h.1 ha).trans (images_of_unselecting (unselecting_captureModeWords hP))
  have hstored : Ran ({ s with
      cache := some { c with continuous := true, exttrig := false }, cstate := .configured } : State).begin _ _ rs :=
    (hran.storeCache { c with continuous := true, exttrig := false }).storeCstate .configured
  have hem := hstored.respond 0
  obtain ⟨hcfg, hreqs, hcstate, hframelog, hbuf⟩ := hstored.untouched.respond 0
  refine ⟨_, exec_setCaptureMode h, { hem with }, ?err, ?cache, hcstate, hcfg, hreqs, hframelog, hbuf, ?selectors⟩
  case err => rw [State.respond_err, State.storeCstate_err, State.storeCache_err]; exact herr
  case cache => rw [State.respond_cache]; exact hstored.cache
  case selectors => rw [State.respond_selectors, State.storeCstate_selectors, State.storeCache_selectors]; exact hsel

/-! ### SET_WOI (R191) -/

theorem unselecting_woiWords {P : Params} (h : P.Admissible) (xs ys xe ye : Half) :
    ∀ w ∈ woiWords P xs ys xe ye, Unselecting P w := by
  intro w hw
  simp only [woiWords, List.mem_cons, List.not_mem_nil, or_false] at hw
  rcases hw with rfl | rfl | rfl | rfl | rfl | rfl
  · exact unselecting_w12 h (g := .woiXs) rfl _
  · exact unselecting_w12 h (g := .woiYs) rfl _
  · exact unselecting_w12 h (g := .woiXe) rfl _
  · exact unselecting_w12 h (g := .woiYe) rfl _
  · exact unselecting_w12 h (g := .woiXinc) rfl _
  · exact unselecting_w12 h (g := .woiYinc) rfl _

theorem exec_setWoi {s : State} {c : Cache} (h : Available s c) (xs ys xe ye : Half) :
    exec (.setWoi xs ys xe ye) s = .next (((s.begin.emit (woiWords s.cfg xs ys xe ye)).storeCache
      { c with
        woiXs := boundOf xs, woiYs := boundOf ys, woiXe := boundOf xe, woiYe := boundOf ye
        woiXinc := 1, woiYinc := 1 }).respond 0) := by
  rw [exec, execSetWoi, State.accept_of_available h, State.begin_cfg]

/-- Settles O31: the six words lie in the window's own spaces. -/
theorem setWoiSendsAndCachesMaskedBounds : Obligations.SetWoiSendsAndCachesMaskedBounds := by
  intro s c xs ys xe ye xfers rs ⟨h, hP⟩ hxfers ha
  subst hxfers
  exact executes_of_emit_storeCache h (exec_setWoi h xs ys xe ye) ha (unselecting_woiWords hP xs ys xe ye)

/-! ### SET_ITIME_INTERNAL (R192) -/

/-- Ticks that fit 32 bits are sent as they are. -/
theorem ticksOf_eq {ms : Nat} {ticks : Word32} (h : ticks.toNat = ms * 40000) : ticksOf ms = ticks := by
  have hlt := ticks.isLt
  apply BitVec.eq_of_toNat_eq
  rw [ticksOf, BitVec.toNat_ofNat, show Config.ticksPerMs = 40000 from rfl, ← h, Nat.mod_eq_of_lt hlt]

/-- The words of an integration-time write, with the ticks as one value. -/
theorem itimeWords_eq (P : Params) {ms : Nat} {ticks : Word32} (h : ticks.toNat = ms * 40000) :
    itimeWords P ms = P.itimePre.map (ctlCode P) ++ [v32Word P.itimeBase 3 ticks, v32Word P.itimeBase 2 ticks,
      v32Word P.itimeBase 1 ticks, v32Word P.itimeBase 0 ticks] := by
  rw [itimeWords, ticksOf_eq h, value32]

theorem unselecting_itimeWords {P : Params} (h : P.Admissible) (ms : Nat) : ∀ w ∈ itimeWords P ms, Unselecting P w := by
  intro w hw
  rcases List.mem_append.1 hw with hpre | hticks
  · obtain ⟨code, -, rfl⟩ := List.mem_map.1 hpre
    exact unselecting_ctl h code
  · exact unselecting_value32 h (g := .itime) rfl _ w hticks

section Running

variable {s : State} {c : Cache} {ms : Nat}

theorem exec_setItimeInternal (h : Available s c) (hms : ms ≤ 107374) :
    exec (.setItimeInternal ms) s
      = .next (((s.begin.emit (itimeWords s.cfg ms)).storeCache (c.withItime ms)).respond 0) := by
  rw [exec, execSetItimeInternal, State.accept_of_available h,
    if_neg (show ¬ Config.maxItimeMs < ms from Nat.not_lt.2 hms), State.begin_cfg]

theorem exec_setItimeInternal_tooLong (h : Available s c) (hms : 107374 < ms) :
    exec (.setItimeInternal ms) s = .refused .integrationTimeTooLong := by
  rw [exec, execSetItimeInternal, State.accept_of_available h]
  exact if_pos hms

theorem exec_setItime (h : Available s c) (hms : ms ≤ 107374) :
    exec (.setItime ms) s
      = .next ((((s.begin.emit (itimeWords s.cfg ms)).storeCache (c.withItime ms)).settle
          (c.withItime ms)).respond 0) := by
  rw [exec, execSetItime, State.accept_of_available h, if_neg (show ¬ Config.maxItimeMs < ms from Nat.not_lt.2 hms),
    State.begin_cfg]

theorem exec_setItime_tooLong (h : Available s c) (hms : 107374 < ms) :
    exec (.setItime ms) s = .refused .integrationTimeTooLong := by
  rw [exec, execSetItime, State.accept_of_available h]
  exact if_pos hms

end Running

/-- Settles O32: the codes and the ticks lie in no selector's space. -/
theorem setItimeInternalWritesTicks : Obligations.SetItimeInternalWritesTicks := by
  intro s c ms
  refine ⟨fun ticks xs rs ⟨h, hP⟩ hms hticks hxs ha => ?_, exec_setItimeInternal_tooLong⟩
  rw [← itimeWords_eq s.cfg hticks] at hxs
  subst hxs
  exact executes_of_emit_storeCache h (exec_setItimeInternal h hms) ha (unselecting_itimeWords hP ms)

/-! ### Words over a new cache, then a settle -/

/-- In an idle state storing the cache replaces it. -/
theorem State.storeCache_eq_withCache {s : State} (hi : s.outstanding = none) (c : Cache) :
    s.storeCache c = s.withCache (some c) :=
  State.onward_of_idle _ _ hi

/-- The classes of a list of transactions and of one more. -/
theorem Replies.classes_append_singleton {r : Replies} {xs : List Xfer} {x : Xfer} {rs : List ResultClass}
    (h : r.classes (xs ++ [x]) = some rs) :
    ∃ qs q, rs = qs ++ [q] ∧ r.classes xs = some qs ∧ (r.afterAll xs).classOf x = some q := by
  obtain ⟨qs, ps, rfl, hqs, hps⟩ := Replies.classes_append_inv _ _ _ _ h
  rw [Replies.classes_singleton] at hps
  obtain ⟨q, hq, rfl⟩ := Option.map_eq_some_iff.1 hps
  exact ⟨qs, q, rfl, hqs, hq⟩

/-- An operation whose run is that of words no selector sees, sent over the new cache, a settle with the new cache's
timeout and the answer (R193). -/
theorem executes_of_emit_settle {s : State} {c' : Cache} (hi : s.outstanding = none) {i : Instr} {ws : List CmdWord}
    {rs : List ResultClass} (hx : exec i s = .next ((((s.begin.withCache (some c')).emit ws).settle c').respond 0))
    (ha : Answered s (sent ws ++ [.bulk Config.frameBytes (bulkTimeout c')]) rs)
    (hw : ∀ w ∈ ws, Unselecting s.cfg w) :
    ∃ t, Executes i s t (sent ws ++ [.bulk Config.frameBytes (bulkTimeout c')]) rs 0 ∧ t.cache = some c' ∧
      t.selectors = s.selectors := by
  obtain ⟨qs, q, rfl, hqs, hq⟩ := Replies.classes_append_singleton ha
  obtain ⟨ran₁, err₁⟩ := State.begin_emit_ran (s := s.withCache (some c')) hi hqs
  have sel₁ : ((s.withCache (some c')).begin.emit ws).selectors = s.selectors :=
    (State.begin_emit_selectors (s := s.withCache (some c')) hi hqs).trans (images_of_unselecting hw)
  obtain ⟨ran₂, err₂, sel₂⟩ := State.settle_ran (c := c') ran₁.idle (by rw [ran₁.replies]; exact hq)
  have hran := ran₁.trans ran₂
  have hem := hran.respond 0
  have hun := hran.untouched.respond 0
  refine ⟨_, ⟨hx, { hem with }, ?err, { hun with }⟩, ?cache, ?selectors⟩
  case err =>
    rw [orFlags_append, orFlags_singleton, ← err₁]
    exact (State.respond_err _ _).trans err₂
  case cache => exact (State.respond_cache _ _).trans hran.cache
  case selectors => exact (State.respond_selectors _ _).trans (sel₂.trans sel₁)

/-! ### SET_ITIME (R194) -/

/-- The settle of SET_ITIME has the new timeout, which fits 32 bits. -/
theorem bulkTimeout_withItime (c : Cache) {ms : Nat} (h : ms ≤ 107374) :
    bulkTimeout (c.withItime ms) = 2 * (5000 + ms) := by
  have hlt : 5000 + ms < 2 ^ 32 := by omega
  exact congrArg (2 * ·) ((BitVec.toNat_ofNat _ _).trans (Nat.mod_eq_of_lt hlt))

/-- Settles O33: the words and the cache of the internal variant, then the settle. -/
theorem setItimeSettlesWithNewTimeout : Obligations.SetItimeSettlesWithNewTimeout := by
  intro s c ms
  refine ⟨fun ticks xs rs ⟨h, hP⟩ hms hticks hxs ha => ?_, exec_setItime_tooLong⟩
  rw [← itimeWords_eq s.cfg hticks, ← bulkTimeout_withItime c hms] at hxs
  subst hxs
  obtain ⟨qs, q, -, hqs, -⟩ := Replies.classes_append_singleton ha
  obtain ⟨hran, -⟩ := State.begin_emit_ran h.1 hqs
  have hx := exec_setItime h hms
  rw [State.storeCache_eq_withCache hran.idle, ← State.withCache_emit] at hx
  exact executes_of_emit_settle h.1 hx ha (unselecting_itimeWords hP ms)


/-! ### The flag setters (R198) -/

/-- The transactions of a flag setter are the words of ENCODE_AND_SEND and a settle. -/
theorem flagSetterXfers_eq (P : Params) (c : Cache) :
    flagSetterXfers P c = sent (encodeWords P c) ++ [.bulk Config.frameBytes (bulkTimeout c)] := by
  rw [flagSetterXfers, encodeWords, write32Words, List.append_assoc (_ ++ _) _ (value32 _ _)]
  rfl

/-- The template of R198: a flag setter sends the new packed word and settles, over the new cache. -/
theorem flagSetter_executes {s : State} {c : Cache} (hr : Ready s c) {i : Instr} {set : Cache → Cache}
    {rs : List ResultClass} (hx : exec i s = s.flagSetter set)
    (ha : Answered s (flagSetterXfers s.cfg (set c)) rs) :
    ∃ t, Executes i s t (flagSetterXfers s.cfg (set c)) rs 0 ∧ t.cache = some (set c) ∧ t.selectors = s.selectors := by
  obtain ⟨h, hP⟩ := hr
  rw [flagSetterXfers_eq] at ha ⊢
  rw [State.flagSetter, State.accept_of_available h, State.storeCache_eq_withCache (s := s.begin) h.1] at hx
  exact executes_of_emit_settle h.1 hx ha (unselecting_encodeWords hP (set c))

/-! ### One-bit flags (R200 to R206, R212 to R214) -/

/-- A one-bit setter is a flag setter; of the packed word it sets its own bit and no other. -/
theorem oneBitSetter_spec {v : Bool} {i : Instr} {set : Cache → Cache} {pos : Nat} {inverted : Bool}
    (h : (i, set, pos, inverted) ∈ oneBitSetters v) (c : Cache) :
    (∀ s, exec i s = s.flagSetter set) ∧ (pack (set c)).getLsbD pos = (v ^^ inverted) ∧
      ∀ k, k ≠ pos → (pack (set c)).getLsbD k = (pack c).getLsbD k := by
  simp only [oneBitSetters, List.mem_cons, Prod.mk.injEq, List.not_mem_nil, or_false] at h
  rcases h with ⟨rfl, rfl, rfl, rfl⟩ | ⟨rfl, rfl, rfl, rfl⟩ | ⟨rfl, rfl, rfl, rfl⟩ | ⟨rfl, rfl, rfl, rfl⟩ |
    ⟨rfl, rfl, rfl, rfl⟩ | ⟨rfl, rfl, rfl, rfl⟩ | ⟨rfl, rfl, rfl, rfl⟩ | ⟨rfl, rfl, rfl, rfl⟩ |
    ⟨rfl, rfl, rfl, rfl⟩ | ⟨rfl, rfl, rfl, rfl⟩
  all_goals
    refine ⟨fun _ => rfl, ?_, fun k hk => ?_⟩
    · rw [pack_getLsbD]
      simp
    · simp only [pack_getLsbD, decide_eq_false hk, Bool.false_and]

/-- Settles O36: the template of R198, and the packed word bit by bit. -/
theorem oneBitFlagSettersReconfigureAndSettle : Obligations.OneBitFlagSettersReconfigureAndSettle := by
  intro s c v i set pos inverted xs rs hr hmem hxs ha
  subst hxs
  obtain ⟨hexec, hbits⟩ := oneBitSetter_spec hmem c
  exact ⟨flagSetter_executes hr (hexec s) ha, hbits⟩

/-! ### Levels (R207 to R210) -/

/-- A level setter is a flag setter; of the packed word it sets its own field, to the operand's low bits, and no other
bit. -/
theorem levelSetter_spec {v : Word32} {i : Instr} {set : Cache → Cache} {pos width : Nat}
    (h : (i, set, pos, width) ∈ levelSetters v) (c : Cache) :
    (∀ s, exec i s = s.flagSetter set) ∧ (pack (set c)).extractLsb' pos width = v.extractLsb' 0 width ∧
      ∀ k, k < pos ∨ pos + width ≤ k → (pack (set c)).getLsbD k = (pack c).getLsbD k := by
  obtain ⟨-, -, -, -, power, current, bias, bandwidth, -⟩ := packedWordLayout (set c)
  have houtside : ∀ {k}, k < pos ∨ pos + width ≤ k → ¬ (pos ≤ k ∧ k < pos + width) := by omega
  simp only [levelSetters, List.mem_cons, Prod.mk.injEq, List.not_mem_nil, or_false] at h
  rcases h with ⟨rfl, rfl, rfl, rfl⟩ | ⟨rfl, rfl, rfl, rfl⟩ | ⟨rfl, rfl, rfl, rfl⟩ | ⟨rfl, rfl, rfl, rfl⟩
  case' inl => refine ⟨fun _ => rfl, power, fun k hk => ?_⟩
  case' inr.inl => refine ⟨fun _ => rfl, current, fun k hk => ?_⟩
  case' inr.inr.inl => refine ⟨fun _ => rfl, bias, fun k hk => ?_⟩
  case' inr.inr.inr => refine ⟨fun _ => rfl, bandwidth, fun k hk => ?_⟩
  all_goals simp only [pack_getLsbD, decide_eq_false (houtside hk), Bool.false_and]

/-- Settles O37: the template of R198, and the packed word bit by bit. -/
theorem levelSettersCacheUnmaskedAndSendMasked : Obligations.LevelSettersCacheUnmaskedAndSendMasked := by
  intro s c v i set pos width xs rs hr hmem hxs ha
  subst hxs
  obtain ⟨hexec, hbits⟩ := levelSetter_spec hmem c
  exact ⟨flagSetter_executes hr (hexec s) ha, hbits⟩

/-! ### SET_OUTPUTFACTOR (R211) -/

/-- The output-factor code, without the operand 1, which packs as 0 too (30_encoding R106). -/
theorem pack_outputfactor_field (c : Cache) :
    (pack c).extractLsb' 3 2 = if c.outputfactor = 2 then 2 else if c.outputfactor = 4 then 3 else 0 := by
  obtain ⟨-, -, -, -, -, -, -, -, -, -, -, -, -, -, outputfactor, -⟩ := packedWordLayout c
  rw [outputfactor]
  by_cases h : c.outputfactor = 1
  · rw [h]; rfl
  · rw [if_neg h]

/-- The output factor is in no bit of the packed word but 4:3. -/
theorem pack_outputfactor_other (c : Cache) (v : Word32) {k : Nat} (h3 : k ≠ 3) (h4 : k ≠ 4) :
    (pack { c with outputfactor := v }).getLsbD k = (pack c).getLsbD k := by
  have hk : ¬ (3 ≤ k ∧ k < 5) := by omega
  simp only [pack_getLsbD, decide_eq_false hk, Bool.false_and]

/-- Settles O38: the template of R198, and the two bits of the code. -/
theorem setOutputfactorPacksItsCode : Obligations.SetOutputfactorPacksItsCode := by
  intro s c v xs rs hr hxs ha
  subst hxs
  exact ⟨flagSetter_executes (set := fun c => { c with outputfactor := v }) hr rfl ha,
    pack_outputfactor_field { c with outputfactor := v }, fun k h3 h4 => pack_outputfactor_other c v h3 h4⟩

end Sys2Proof.Machine
end

section
/-! The captures of the Capture State Machine (44_capture R196, R197): what a bulk read of a capture is classified as,
what CAPTURE_FRAMES (O34) and CAPTURE_DATA (O35, O48) do. -/

namespace Sys2Proof.Machine

open Sys2Proof.Config

/-! ### The class and the bytes of a read (40_command_channel R132, R133) -/

section Received

variable {n : Nat} {r : BulkReply}

theorem receive_result_of_full (ht : r.transport = .ok) (h : n ≤ r.bytes.length) : (receive n r).result = .ok := by
  rw [receive_result, ht, Nat.min_eq_left h]
  exact if_pos rfl

theorem receive_result_of_short (ht : r.transport = .ok) (hpos : 0 < r.bytes.length) (h : r.bytes.length < n) :
    (receive n r).result = .underrun := by
  rw [receive_result, ht, Nat.min_eq_right h.le]
  exact (if_neg h.ne).trans (if_pos hpos)

theorem receive_result_of_empty (ht : r.transport = .ok) (hn : 0 < n) (h : r.bytes.length = 0) :
    (receive n r).result = .generic := by
  rw [receive_result, ht, h, Nat.min_zero]
  exact (if_neg hn.ne).trans (if_neg (Nat.lt_irrefl 0))

theorem receive_result_of_timeout (ht : r.transport = .timeout) : (receive n r).result = .timeout := by
  rw [receive_result, ht]
  rfl

theorem receive_result_of_error (ht : r.transport = .error) : (receive n r).result = .generic := by
  rw [receive_result, ht]
  rfl

/-- Without a transport error the bytes asked for are kept as they came. -/
theorem receive_kept_getElem? (ht : r.transport = .ok) {j : Nat} (hj : j < n) :
    (receive n r).kept[j]? = r.bytes[j]? := by
  rw [receive_kept_of_ok ht, List.getElem?_take_of_lt hj]

end Received

/-- An answer writes no byte. -/
theorem State.respond_readBuf (s : State) (v : Word32) (a : Nat) : (s.respond v).readBuf a = s.readBuf a := by
  rw [State.readBuf, State.respond_buf, State.readBuf]

/-! ### CAPTURE_FRAMES (R196) -/

/-- The state a capture of frames starts from: the frame log is emptied. -/
def State.beginFrames (s : State) : State := { s.begin with framelog := [] }

section Running

variable {s : State} {c : Cache} {buf n : Nat}

theorem exec_captureFrames (h : Available s c) (hn : n / 81920 = 0 ∨ buf + n / 81920 * 163840 - 1 ≤ 0xFFFFFFFF) :
    exec (.captureFrames buf n) s
      = .next ((s.beginFrames.captureLoop (bulkTimeout c) (n / 81920) buf).respond 0) := by
  rw [exec, execCaptureFrames, State.accept_of_available h]
  exact if_neg (show ¬ (0 < n / 81920 ∧ 0xFFFFFFFF < buf + n / 81920 * 163840 - 1) by omega)

theorem exec_captureFrames_beyond (h : Available s c) (hpos : 0 < n / 81920)
    (hn : 0xFFFFFFFF < buf + n / 81920 * 163840 - 1) :
    exec (.captureFrames buf n) s = .refused .captureBeyondBuffer := by
  rw [exec, execCaptureFrames, State.accept_of_available h]
  exact if_pos ⟨hpos, hn⟩

end Running

/-- Settles O34: the law of the loop over frames, and the class of each frame's reply. -/
theorem captureFramesFillsDisjointRegions : Obligations.CaptureFramesFillsDisjointRegions := by
  intro s c buf totalPixels n xs rs hn
  subst hn
  refine ⟨fun h hspace hxs ha => ?_, exec_captureFrames_beyond⟩
  subst hxs
  obtain ⟨hran, hlog, herr, hsel, hbytes, houtside⟩ :=
    State.captureLoop_ran (bulkTimeout c) (totalPixels / 81920) s.beginFrames buf rs h.1 ha
  have hexec := exec_captureFrames h hspace
  generalize s.beginFrames.captureLoop (bulkTimeout c) (totalPixels / 81920) buf = u at *
  have hem := Ran.respond (s := { s with framelog := u.framelog, buf := u.buf }) hran 0
  refine ⟨_, hexec, { hem with }, ?err, ?log, fun i r hi hr => ?frame, fun a ha' => ?outside,
    ?cfg, ?reqs, ?cstate, ?cache, ?selectors⟩
  case err => exact (State.respond_err _ _).trans herr
  case log => exact (State.respond_framelog _ _).trans hlog
  case frame =>
    obtain ⟨q, hq, hclass⟩ := Replies.classes_replicate _ _ _ _ _ ha i hi
    obtain rfl : r = q := Option.some.inj (hr.symm.trans hq)
    rw [hclass]
    refine ⟨fun ht hlen => ?_, fun ht hpos hlen => ?_, fun ht hlen => ?_, fun ht => ?_, fun ht => ?_,
      fun ht j b hj hb => ?_⟩
    · rw [receive_result_of_full ht hlen]
    · rw [receive_result_of_short ht hpos hlen]
    · rw [receive_result_of_empty ht (by decide) hlen]
    · rw [receive_result_of_timeout ht]
    · rw [receive_result_of_error ht]
    · rw [State.respond_readBuf]
      exact hbytes i r hi hr j b ((receive_kept_getElem? ht hj).trans hb)
  case outside =>
    rw [State.respond_readBuf]
    exact houtside a ha'
  case cfg => exact (State.respond_cfg _ _).trans hran.cfg
  case reqs => exact (State.respond_reqs _ _).trans hran.reqs
  case cstate => exact (State.respond_cstate _ _).trans hran.cstate
  case cache => exact (State.respond_cache _ _).trans (hran.cache.trans h.2)
  case selectors => exact (State.respond_selectors _ _).trans hsel

/-! ### CAPTURE_DATA (R197) -/

section Running

variable {s : State} {c : Cache} {buf n : Nat}

theorem exec_captureData (h : Available s c) (hpos : 0 < n) (hn : buf + n - 1 ≤ 0xFFFFFFFF) :
    exec (.captureData buf n) s = .next (s.begin.captureBytes buf n (bulkTimeout c)) := by
  rw [exec, execCaptureData, State.accept_of_available h, if_neg hpos.ne']
  exact if_neg (show ¬ 0xFFFFFFFF < buf + n - 1 by omega)

theorem exec_captureData_zero (h : Available s c) : exec (.captureData buf 0) s = .next (s.begin.respond 0) := by
  rw [exec, execCaptureData, State.accept_of_available h, if_pos rfl]

theorem exec_captureData_beyond (h : Available s c) (hpos : 0 < n) (hn : 0xFFFFFFFF < buf + n - 1) :
    exec (.captureData buf n) s = .refused .captureBeyondBuffer := by
  rw [exec, execCaptureData, State.accept_of_available h, if_neg hpos.ne']
  exact if_pos hn

end Running

/-- An answered capture read, up to its answer: one bulk read, its class in `err`, the bytes kept in the region. -/
theorem State.captureBytes_ran {s : State} {r : BulkReply} (a n t : Nat) (hi : s.outstanding = none)
    (hr : s.replies.bulk 0 = some r) :
    ∃ u, s.captureBytes a n t = u.respond (BitVec.ofNat 32 (min n r.bytes.length)) ∧
      Ran { s with buf := u.buf } u [.bulk n t] [(receive n r).result] ∧
      u.err = s.err ||| (receive n r).result.flag ∧ u.selectors = s.selectors ∧
      (∀ (j : Nat) (b : Byte), (receive n r).kept[j]? = some b → u.readBuf (a + j) = some b) ∧
      (∀ x, x < a ∨ a + n ≤ x → u.readBuf x = s.readBuf x) := by
  obtain ⟨hran, herr, hsel, hv⟩ := State.bulkRead_ran n t hi hr
  obtain ⟨hkept, houtside⟩ := ((s.bulkRead n t).1.raise (receive n r).result).fillRegion_readBuf a n r
  refine ⟨((s.bulkRead n t).1.raise (receive n r).result).fillRegion a n (receive n r), ?_,
    { hran with buf := rfl }, ?_, hsel, hkept, fun x hx => (houtside x hx).trans ?_⟩
  · rw [← List.length_take]
    simp only [State.captureBytes, hv]
    rfl
  · rw [State.fillRegion_err, State.raise_err, herr]
  · unfold State.readBuf
    rw [State.raise_buf, hran.buf]

/-- A capture read that is never answered stops in it. -/
theorem State.captureBytes_stopped {s : State} (a n t : Nat) (hi : s.outstanding = none)
    (hr : s.replies.bulk 0 = none) :
    Stopped s (s.captureBytes a n t) [] [] (.bulk n t) ∧ (s.captureBytes a n t).selectors = s.selectors := by
  obtain ⟨hstop, -, hsel, hv⟩ := State.bulkRead_stopped n t hi hr
  have hc : s.captureBytes a n t = (s.bulkRead n t).1 := by simp only [State.captureBytes, hv]
  rw [hc]
  exact ⟨hstop, hsel⟩

/-- An operation that answers without a transaction or an error. -/
theorem answers_of_respond {s : State} (hi : s.outstanding = none) {i : Instr} {v : Word32}
    (hx : exec i s = .next (s.begin.respond v)) : ∃ t, Answers i s t 0 v := by
  have hran := Ran.refl s.begin hi
  exact ⟨_, hx, hran.respond v, State.respond_err _ _, hran.untouched.respond v, State.respond_cache _ _,
    State.respond_selectors _ _⟩

/-- Settles O35: the law of an answered capture read, and the class of its reply. -/
theorem captureDataReportsClassAndCount : Obligations.CaptureDataReportsClassAndCount := by
  intro s c buf length
  refine ⟨fun r k h hpos hspace hr hk => ?read, fun h hzero => ?zero, exec_captureData_beyond⟩
  case zero =>
    subst hzero
    exact answers_of_respond h.1 (exec_captureData_zero h)
  case read =>
    obtain ⟨u, hu, hran, herr, hsel, hbytes, houtside⟩ :=
      State.captureBytes_ran (s := s.begin) buf length (bulkTimeout c) h.1 hr
    rw [Nat.min_comm, ← hk] at hu
    have hexec := (exec_captureData h hpos hspace).trans (congrArg Host.Outcome.next hu)
    have hem := Ran.respond (s := { s with buf := u.buf }) hran (BitVec.ofNat 32 k)
    replace herr : (u.respond (BitVec.ofNat 32 k)).err = (receive length r).result.flag :=
      (State.respond_err _ _).trans (herr.trans BitVec.zero_or)
    refine ⟨_, (receive length r).result, hexec, { hem with }, fun ht hlen => ?_, fun ht h0 hlen => ?_,
      fun ht hlen => ?_, fun ht => ?_, fun ht => ?_, fun ht j b hj hb => ?bytes, fun a ha => ?outside,
      (State.respond_cfg _ _).trans hran.cfg, (State.respond_reqs _ _).trans hran.reqs,
      (State.respond_cstate _ _).trans hran.cstate, (State.respond_framelog _ _).trans hran.framelog,
      (State.respond_cache _ _).trans (hran.cache.trans h.2), (State.respond_selectors _ _).trans hsel⟩
    · have hq : (receive length r).result = .ok := receive_result_of_full ht (by omega)
      exact ⟨hq, by rw [herr, hq]; rfl⟩
    · have hq : (receive length r).result = .underrun := receive_result_of_short ht (by omega) (by omega)
      exact ⟨hq, by rw [herr, hq]; rfl⟩
    · have hq : (receive length r).result = .generic := receive_result_of_empty ht hpos (by omega)
      exact ⟨hq, by rw [herr, hq]; rfl⟩
    · have hq : (receive length r).result = .timeout := receive_result_of_timeout ht
      exact ⟨hq, by rw [herr, hq]; rfl⟩
    · have hq : (receive length r).result = .generic := receive_result_of_error ht
      exact ⟨hq, by rw [herr, hq]; rfl⟩
    case bytes =>
      rw [State.respond_readBuf]
      exact hbytes j b ((receive_kept_getElem? ht hj).trans hb)
    case outside =>
      rw [State.respond_readBuf]
      exact houtside a ha

/-- Settles O48: the law of a capture read that is never answered. -/
theorem unansweredReadStaysCapturing : Obligations.UnansweredReadStaysCapturing := by
  intro s c buf length h hr hpos hspace
  obtain ⟨hstop, hsel⟩ := State.captureBytes_stopped (s := s.begin) buf length (bulkTimeout c) h.1 hr
  refine ⟨_, exec_captureData h hpos hspace, hstop.cstate, hstop.outstanding, hstop.rsp, hstop.seq,
    hstop.trace.trans (List.append_nil _), hstop.cache.trans h.2, hstop.cfg, hstop.reqs, hstop.framelog,
    fun a => ?_, hsel⟩
  unfold State.readBuf
  rw [hstop.buf, State.begin_buf]

end Sys2Proof.Machine
end

section
/-! The frame buffer (44_capture R193, R196, R197): no action but filling a region writes it, so no operation but the two
captures does (O52). -/

namespace Sys2Proof.Machine

open Sys2Proof.Config

/-! ### Actions -/

section Actions

variable (s : State)

@[simp] theorem State.send_buf (w : CmdWord) : (s.send w).buf = s.buf := by
  obtain ⟨-, -, -, -, -, hbuf, -⟩ := s.send_keeps w
  exact hbuf

@[simp] theorem State.emit_buf (ws : List CmdWord) : (s.emit ws).buf = s.buf := by
  obtain ⟨-, -, -, -, -, hbuf, -⟩ := State.emit_keeps ws s
  exact hbuf

@[simp] theorem State.readStatus_buf : s.readStatus.1.buf = s.buf := by
  rcases s.readStatus_cases with ⟨-, hs⟩ | ⟨-, -, e, d, hs, -⟩ | ⟨-, r, e, d, -, hs, -⟩ <;> rw [hs] <;> rfl

@[simp] theorem State.bulkRead_buf (n t : Nat) : (s.bulkRead n t).1.buf = s.buf := by
  rcases s.bulkRead_cases n t with ⟨-, hs⟩ | ⟨-, -, e, d, hs, -⟩ | ⟨-, r, e, d, -, hs, -⟩ <;> rw [hs] <;> rfl

/-- What a settle reads is dropped (R193). -/
@[simp] theorem State.settle_buf (c : Cache) : (s.settle c).buf = s.buf := by
  unfold State.settle
  dsimp only
  split
  · rw [State.raise_buf, State.bulkRead_buf]
  · rw [State.bulkRead_buf]

@[simp] theorem State.readAux_buf (a : Byte) : (s.readAux a).buf = s.buf := by
  rw [State.readAux_eq, State.respond_buf, State.emit_buf, State.readStatus_buf, State.emit_buf]

/-- Words, a cache write and an answer. -/
theorem State.emit_storeCache_respond_buf (ws : List CmdWord) (c : Cache) (v : Word32) :
    (((s.emit ws).storeCache c).respond v).buf = s.buf := by
  rw [State.respond_buf, State.storeCache_buf, State.emit_buf]

end Actions

/-! ### Operations -/

/-- If it is a next state, its frame buffer is `m`. -/
def KeepsBuf (m : Memory) (o : Host.Outcome State Fault Refusal) : Prop := ∀ t, o = .next t → t.buf = m

section Operations

variable {m : Memory} {s : State}

theorem keepsBuf_next {t : State} (h : t.buf = m) : KeepsBuf m (.next t) := by
  rintro _ ⟨⟩
  exact h

theorem keepsBuf_refused (r : Refusal) : KeepsBuf m (.refused r) := by
  rintro _ ⟨⟩

/-- Raising an error and answering. -/
theorem keepsBuf_raise (s : State) (r : ResultClass) : KeepsBuf s.buf (.next ((s.raise r).respond 0)) :=
  keepsBuf_next (by rw [State.respond_buf, State.raise_buf])

/-- An operation writes no byte if its body does not. -/
theorem keepsBuf_accept {body : Cache → State → Host.Outcome State Fault Refusal}
    (hb : ∀ c s, KeepsBuf s.buf (body c s)) (s : State) : KeepsBuf s.buf (s.accept body) := by
  intro t ht
  obtain ⟨c, -, ht⟩ := State.accept_next ht
  exact hb c s.begin t ht

theorem keepsBuf_flagSetter (s : State) (set : Cache → Cache) : KeepsBuf s.buf (s.flagSetter set) :=
  keepsBuf_accept (fun c s => keepsBuf_next (by
    rw [State.respond_buf, State.settle_buf, State.encodeAndSend, State.emit_buf, State.storeCache_buf])) s

theorem keepsBuf_openDevice (s : State) : KeepsBuf s.buf (execOpenDevice s) := by
  unfold execOpenDevice
  split_ifs
  · exact keepsBuf_refused _
  · exact keepsBuf_refused _
  · obtain ⟨e, d, r, hr⟩ := s.begin.takeOpenReply_cases
    simp only [hr]
    cases r with
    | ok => exact keepsBuf_next (State.respond_buf _ _)
    | notFound => exact keepsBuf_raise (s.begin.afterTaking e d) _
    | error => exact keepsBuf_raise (s.begin.afterTaking e d) _

/-- Every operation but the two captures leaves the frame buffer as it was. -/
theorem keepsBuf_exec (s : State) (i : Instr) (hframes : ∀ b n, i ≠ .captureFrames b n)
    (hdata : ∀ b n, i ≠ .captureData b n) : KeepsBuf s.buf (exec i s) := by
  cases i with
  | captureFrames b n => exact absurd rfl (hframes b n)
  | captureData b n => exact absurd rfl (hdata b n)
  | writeBit id d =>
    unfold exec execWriteBit
    refine keepsBuf_accept (fun c u => ?_) s
    cases bitIndex u.cfg id with
    | none => exact keepsBuf_raise u _
    | some idx => exact keepsBuf_next (by rw [State.respond_buf, State.send_buf])
  | write16 id v =>
    unfold exec execWrite16
    refine keepsBuf_accept (fun c u => ?_) s
    cases reg16Of id with
    | none => exact keepsBuf_raise u _
    | some r => exact keepsBuf_next (by rw [State.respond_buf, State.emit_buf])
  | write32 id v =>
    unfold exec execWrite32
    refine keepsBuf_accept (fun c u => ?_) s
    split_ifs
    · exact keepsBuf_next (by rw [State.respond_buf, State.emit_buf])
    · exact keepsBuf_raise u _
  | read16 id =>
    unfold exec execRead16
    refine keepsBuf_accept (fun c u => ?_) s
    cases auxAddress u.cfg id with
    | some a => exact keepsBuf_next (u.readAux_buf a)
    | none => dsimp only; split_ifs <;> exact keepsBuf_raise u _
  | encodeAndSend =>
    unfold exec execEncodeAndSend
    exact keepsBuf_accept (fun c u => keepsBuf_next ((State.respond_buf _ _).trans (u.emit_buf _))) s
  | setFrameRate hz =>
    unfold exec execSetFrameRate
    refine keepsBuf_accept (fun c u => ?_) s
    split_ifs
    · exact keepsBuf_refused _
    · exact keepsBuf_refused _
    · exact keepsBuf_next (u.emit_storeCache_respond_buf _ _ _)
  | setCaptureMode =>
    unfold exec execSetCaptureMode
    refine keepsBuf_accept (fun c u => keepsBuf_next ?_) s
    rw [State.respond_buf, State.storeCstate_buf, State.storeCache_buf, State.emit_buf]
  | setWoi xs ys xe ye =>
    unfold exec execSetWoi
    exact keepsBuf_accept (fun c u => keepsBuf_next (u.emit_storeCache_respond_buf _ _ _)) s
  | setItimeInternal ms =>
    unfold exec execSetItimeInternal
    refine keepsBuf_accept (fun c u => ?_) s
    split_ifs
    · exact keepsBuf_refused _
    · exact keepsBuf_next (u.emit_storeCache_respond_buf _ _ _)
  | setItime ms =>
    unfold exec execSetItime
    refine keepsBuf_accept (fun c u => ?_) s
    split_ifs
    · exact keepsBuf_refused _
    · exact keepsBuf_next (by rw [State.respond_buf, State.settle_buf, State.storeCache_buf, State.emit_buf])
  | setGain | setXinv | setYinv | setLinerepeat | setRefout | setReset | setSkim | setPower | setCurrent | setBias
  | setBandwidth | setOutputfactor | setItr | setMultiplereadouts | setNondestructive =>
    exact keepsBuf_flagSetter s _
  | setPwm v =>
    unfold exec execSetPwm
    exact keepsBuf_accept (fun c u => keepsBuf_next (u.emit_storeCache_respond_buf _ _ _)) s
  | setCooling v =>
    unfold exec execSetCooling
    exact keepsBuf_accept (fun c u =>
      keepsBuf_next (u.emit_storeCache_respond_buf [ctlWord u.cfg u.cfg.idxCooling v] _ _)) s
  | setImageInvert v =>
    unfold exec execSetImageInvert
    exact keepsBuf_accept (fun c u =>
      keepsBuf_next (u.emit_storeCache_respond_buf [ctlWord u.cfg u.cfg.idxInvert v] _ _)) s
  | setAnalog id v =>
    unfold exec execSetAnalog
    refine keepsBuf_accept (fun c u => ?_) s
    cases reg16Of id with
    | none => exact keepsBuf_raise u _
    | some r => dsimp only; split_ifs <;> exact keepsBuf_next (u.emit_storeCache_respond_buf _ _ _)
  | get ix =>
    unfold exec execGet
    refine keepsBuf_accept (fun c u => ?_) s
    cases c.read ix with
    | some v => exact keepsBuf_next (State.respond_buf _ _)
    | none => exact keepsBuf_raise u _
  | getTemperatureAdu =>
    unfold exec execGetTemperatureAdu
    exact keepsBuf_accept (fun _ u => keepsBuf_next (u.readAux_buf _)) s
  | getTemperatureAdcType =>
    unfold exec execGetTemperatureAdcType
    exact keepsBuf_accept (fun _ u => keepsBuf_next (u.readAux_buf _)) s
  | openDevice => exact keepsBuf_openDevice s
  | closeDevice =>
    unfold exec execCloseDevice
    exact keepsBuf_accept (fun _ u => keepsBuf_next (State.respond_buf u.destroyCache 0)) s

end Operations

/-- Settles O52: equal frame buffers read alike. -/
theorem onlyCapturesWriteTheFrameBuffer : Obligations.OnlyCapturesWriteTheFrameBuffer := by
  intro s t i h hframes hdata a
  rw [State.readBuf, State.readBuf, keepsBuf_exec s i hframes hdata t h]

end Sys2Proof.Machine
end

section
/-! The Camera State Cache operations and the lifecycle (45_cache_setters): the PWM duty (O39), the two control bits (O40),
SET_ANALOG (O41), GET (O42), OPEN (O43) and CLOSE (O44). A setter here is words, a cache write and an answer, with no settle;
GET and the lifecycle emit nothing. -/

namespace Sys2Proof.Machine

open Sys2Proof.Config

/-! ### SET_PWM (R230) -/

/-- A value that is not negative is clamped from above only. -/
theorem clampPwm_natCast (n : Nat) : clampPwm (n : Int) = min n 4095 := by
  unfold clampPwm Config.maxPwm
  split_ifs <;> omega

/-- The words of a write to PWM: pair 1 of the bank-select pairs, channel 2. -/
theorem write16Words_pwmReg (P : Params) (p : Nat) :
    write16Words P pwmReg (BitVec.ofNat 16 p) = [ctlCode P P.banksel1, w8 P.av2Base (BitVec.ofNat 8 (p % 256)),
      w8 P.av2Base (BitVec.ofNat 8 (p / 256)), ctlCode P P.banksel0, ctlCode P P.banksel1] := by
  rw [← lo8_ofNat, ← hi8_ofNat]
  rfl

/-- The mirror of PWM takes the low 12 bits of the value, all there are of a clamped one (10_state R27). -/
theorem writeMirror_pwmReg (c : Cache) (p : Nat) :
    c.writeMirror pwmReg (BitVec.ofNat 16 p) = { c with pwm := BitVec.ofNat 12 p } := by
  have hp : (BitVec.ofNat 16 p).setWidth 12 = BitVec.ofNat 12 p := by
    apply BitVec.eq_of_toNat_eq
    rw [BitVec.toNat_setWidth, BitVec.toNat_ofNat, BitVec.toNat_ofNat]
    omega
  rw [← hp]
  rfl

/-- The words of sub-range A lie in no selector's space. -/
theorem unselecting_write16Words_a {P : Params} (h : P.Admissible) (k : Fin 4) (v : Half) :
    ∀ w ∈ write16Words P ⟨.a, k⟩ v, Unselecting P w := fun w hw =>
  ⟨inSpace_write16Words h .a k v (g := .tsel) rfl (by decide) (by decide) (by decide) w hw,
    inSpace_write16Words h .a k v (g := .asel) rfl (by decide) (by decide) (by decide) w hw,
    inSpace_write16Words h .a k v (g := .auxa) rfl (by decide) (by decide) (by decide) w hw⟩

theorem exec_setPwm {s : State} {c : Cache} (h : Available s c) (v : Int) :
    exec (.setPwm v) s
      = .next (((s.begin.emit (write16Words s.cfg pwmReg (BitVec.ofNat 16 (clampPwm v)))).storeCache
          { c with pwm := BitVec.ofNat 12 (clampPwm v) }).respond 0) := by
  rw [exec, execSetPwm, State.accept_of_available h, State.pwmBody, State.begin_cfg, writeMirror_pwmReg]

/-- Settles O39: the words and the mirror of the clamped value; no selector sees a bank-select write. -/
theorem setPwmWritesTheClampedValue : Obligations.SetPwmWritesTheClampedValue := by
  intro s c v p xs rs ⟨h, hP⟩ hp hxs ha
  have hclamp : p = clampPwm v := hp
  rw [← write16Words_pwmReg] at hxs
  subst hxs hclamp
  exact executes_of_emit_storeCache h (exec_setPwm h v) ha (unselecting_write16Words_a hP 3 _)

/-! ### SET_COOLING and SET_IMAGE_INVERT (R231, R232) -/

/-- An operation that sends one control-bank word, writes the cache and answers: `err` is the class of the word. -/
theorem executes_of_ctlWord_storeCache {s : State} {c c' : Cache} (hr : Ready s c) {i : Instr} {idx : BitVec 3} {v : Bool}
    {a : Transport} (hx : exec i s = .next (((s.begin.send (ctlWord s.cfg idx v)).storeCache c').respond 0))
    (ha : s.replies.cmd 0 = some a) :
    ∃ t, Executes i s t [.cmd (ctlWord s.cfg idx v)] [commandClass a] 0 ∧ t.err = (commandClass a).flag ∧
      t.cache = some c' ∧ t.selectors = s.selectors := by
  obtain ⟨h, hP⟩ := hr
  have hw : ∀ w ∈ [ctlWord s.cfg idx v], Unselecting s.cfg w := fun w hw => by
    rw [List.mem_singleton.1 hw]
    exact unselecting_ctl hP _
  obtain ⟨t, ht, hcache, hsel⟩ := executes_of_emit_storeCache h hx (answered_singleton ha) hw
  exact ⟨t, ht, ht.err.trans (orFlags_singleton _), hcache, hsel⟩

theorem exec_setCooling {s : State} {c : Cache} (h : Available s c) (v : Bool) :
    exec (.setCooling v) s
      = .next (((s.begin.send (ctlWord s.cfg s.cfg.idxCooling v)).storeCache { c with cooling := v }).respond 0) := by
  rw [exec, execSetCooling, State.accept_of_available h, State.begin_cfg]

theorem exec_setImageInvert {s : State} {c : Cache} (h : Available s c) (v : Bool) :
    exec (.setImageInvert v) s
      = .next (((s.begin.send (ctlWord s.cfg s.cfg.idxInvert v)).storeCache { c with invert := v }).respond 0) := by
  rw [exec, execSetImageInvert, State.accept_of_available h, State.begin_cfg]

/-- Settles O40: the two operations are one control-bank word over two registers. -/
theorem setCoolingAndInvertWriteTheirBit : Obligations.SetCoolingAndInvertWriteTheirBit := by
  intro s c v a r f hr ha hf
  obtain ⟨rfl, rfl⟩ := mem_answerClasses_iff.1 hf
  exact ⟨executes_of_ctlWord_storeCache hr (exec_setCooling hr.1 v) ha,
    executes_of_ctlWord_storeCache hr (exec_setImageInvert hr.1 v) ha⟩

/-! ### SET_ANALOG (R233) -/

/-- A row of the table of mirrors: a register other than PWM, its id, and what its mirror write does. -/
theorem mirrors_spec {v : Half} {id : Byte} {r : Reg16} {set : Cache → Cache} (h : (id, r, set) ∈ mirrors v) :
    id = r.id ∧ r ≠ pwmReg ∧ ∀ c : Cache, c.writeMirror r v = set c := by
  simp only [mirrors, List.mem_cons, Prod.mk.injEq, List.not_mem_nil, or_false] at h
  rcases h with ⟨rfl, rfl, rfl⟩ | ⟨rfl, rfl, rfl⟩ | ⟨rfl, rfl, rfl⟩ | ⟨rfl, rfl, rfl⟩ | ⟨rfl, rfl, rfl⟩ |
    ⟨rfl, rfl, rfl⟩ | ⟨rfl, rfl, rfl⟩ | ⟨rfl, rfl, rfl⟩ | ⟨rfl, rfl, rfl⟩ | ⟨rfl, rfl, rfl⟩ | ⟨rfl, rfl, rfl⟩
  all_goals exact ⟨rfl, by decide, fun _ => rfl⟩

theorem State.withCache_of_cache_eq {s : State} {k : Option Cache} (h : s.cache = k) : s.withCache k = s := by
  subst h
  rfl

/-- Replacing the cache of where an operation ends changes no transaction and no response. -/
theorem Emitted.withCache {s t : State} {xs : List Xfer} {rs : List ResultClass} {v : Word32} (h : Emitted s t xs rs v)
    (k : Option Cache) : Emitted s (t.withCache k) xs rs v :=
  { h with }

theorem Untouched.withCache {s t : State} (h : Untouched s t) (k : Option Cache) : Untouched s (t.withCache k) :=
  { h with }

section SetAnalog

variable {s : State} {c : Cache}

theorem exec_setAnalog_of_reg (h : Available s c) {r : Reg16} (hr : r ≠ pwmReg) (v : Half) :
    exec (.setAnalog r.id v) s
      = .next (((s.begin.emit (write16Words s.cfg r v)).storeCache (c.writeMirror r v)).respond 0) := by
  rw [exec, execSetAnalog, State.accept_of_available h, reg16Of_id]
  exact if_neg hr

theorem exec_setAnalog_of_none (h : Available s c) {id : Byte} (hr : reg16Of id = none) (v : Half) :
    exec (.setAnalog id v) s = .next ((s.begin.raise .noSuchRegister).respond 0) := by
  rw [exec, execSetAnalog, State.accept_of_available h, hr]

/-- Where the `WRITE16` of the same operands ends idle, SET_ANALOG ends in the same state with the mirror written. -/
theorem exec_setAnalog_of_write16 (h : Available s c) {r : Reg16} (hr : r ≠ pwmReg) {v : Half} {t : State}
    (hw : exec (.write16 r.id v) s = .next t) (hi : t.outstanding = none) :
    exec (.setAnalog r.id v) s = .next (t.withCache (some (c.writeMirror r v))) := by
  rw [exec_write16_of_reg h (reg16Of_id r)] at hw
  cases hw
  rw [State.respond_outstanding] at hi
  rw [exec_setAnalog_of_reg h hr, State.storeCache_eq_withCache hi, State.withCache_respond]

/-- SET_ANALOG of PWM is SET_PWM of the unsigned value, in every state. -/
theorem exec_setAnalog_pwm (s : State) (v : Half) :
    exec (.setAnalog pwmReg.id v) s = exec (.setPwm (v.toNat : Int)) s := by
  unfold exec execSetAnalog execSetPwm
  simp only [reg16Of_id, if_true]

end SetAnalog

/-- Settles O41: SET_ANALOG is the `WRITE16` and the mirror, the body of SET_PWM, or an error. -/
theorem setAnalogWritesAndMirrors : Obligations.SetAnalogWritesAndMirrors := by
  intro s c id v xs rs
  refine ⟨fun r set hmem h hxs ha => ?mirrored, fun hid => ?same, fun hid h hxs ha => ?pwm, fun ha ht hx h => ?other⟩
  case mirrored =>
    subst hxs
    obtain ⟨rfl, hr, hset⟩ := mirrors_spec hmem
    obtain ⟨t, ⟨hexec, hem, herr, hun⟩, hcache, -⟩ := write16_executes h r v ha
    have hanalog := exec_setAnalog_of_write16 h hr hexec hem.idle
    rw [hset c] at hanalog
    refine ⟨_, ⟨hanalog, hem.withCache _, herr, hun.withCache _⟩, rfl, hexec.trans ?_⟩
    exact congrArg Host.Outcome.next (State.withCache_of_cache_eq hcache).symm
  case same =>
    subst hid
    exact exec_setAnalog_pwm s v
  case pwm =>
    subst hid
    rw [← clampPwm_natCast] at hxs ⊢
    subst hxs
    have hexec := (exec_setAnalog_pwm s v).trans (exec_setPwm h (v.toNat : Int))
    obtain ⟨hem, herr, hun, hcache, -⟩ := State.emit_store_respond_completed h ha _ 0
    exact ⟨_, ⟨hexec, hem, herr, hun⟩, hcache⟩
  case other =>
    have hn : reg16Of id = none := by
      rw [← Option.not_isSome_iff_eq_none, reg16Of_isSome_iff]
      exact not_or.2 ⟨ha, not_or.2 ⟨ht, hx⟩⟩
    exact answers_of_raise h (exec_setAnalog_of_none h hn v)

/-! ### GET (R240) -/

/-- The registers of the table are read by their index (10_state R21). -/
theorem Cache.read_of_mem {c : Cache} {i : Byte} {v : Word32} (h : (i, v) ∈ cacheRegisters c) : c.read i = some v := by
  have hall : ∀ e ∈ cacheRegisters c, c.read e.1 = some e.2 := by
    unfold cacheRegisters
    repeat' refine List.forall_mem_cons.2 ⟨rfl, ?_⟩
    exact List.forall_mem_nil _
  exact hall _ h

/-- An index that can be read is in the table: looking it up there finds what is read. -/
theorem Cache.mem_of_read {c : Cache} {i : Byte} {v : Word32} (h : c.read i = some v) : (i, v) ∈ cacheRegisters c := by
  have hlookup : (cacheRegisters c).lookup i = some v := by
    have hi : i = BitVec.ofNat 8 i.toNat := by rw [BitVec.ofNat_toNat, BitVec.setWidth_eq]
    rw [Cache.read] at h
    generalize i.toNat = n at h hi
    subst hi
    split at h
    all_goals cases h <;> rfl
  obtain ⟨before, after, hsplit, -⟩ := List.lookup_eq_some_iff.1 hlookup
  rw [hsplit]
  exact List.mem_append_right _ List.mem_cons_self

theorem exec_get_of_some {s : State} {c : Cache} (h : Available s c) {i : Byte} {v : Word32} (hv : c.read i = some v) :
    exec (.get i) s = .next (s.begin.respond v) := by
  rw [exec, execGet, State.accept_of_available h, hv]

theorem exec_get_of_none {s : State} {c : Cache} (h : Available s c) {i : Byte} (hv : c.read i = none) :
    exec (.get i) s = .next ((s.begin.raise .noSuchRegister).respond 0) := by
  rw [exec, execGet, State.accept_of_available h, hv]

/-- Settles O42: the table of the statement is what can be read. -/
theorem getAnswersTheCachedValue : Obligations.GetAnswersTheCachedValue := by
  intro s c i h
  refine ⟨fun v hv => answers_of_respond h.1 (exec_get_of_some h (Cache.read_of_mem hv)), fun hnot => ?_⟩
  have hnone : c.read i = none := Option.eq_none_iff_forall_ne_some.2 fun v hv => hnot v (Cache.mem_of_read hv)
  exact answers_of_raise h (exec_get_of_none h hnone)

/-! ### OPEN (R243) -/

/-- The environment's answer to `OPEN` is the settled one where there is one; only `env` and `draws` differ after it. -/
theorem State.takeOpenReply_eq (s : State) : ∃ e d r, s.takeOpenReply = (r, s.afterTaking e d) ∧
    (s.env.opens.head? = none ∨ s.env.opens.head? = some r) := by
  unfold State.takeOpenReply
  rcases hq : s.env.opens with _ | ⟨q, rest⟩
  · exact ⟨s.env, { s.draws with opens := s.draws.opens + 1 }, _, rfl, .inl rfl⟩
  · exact ⟨{ s.env with opens := rest }, s.draws, q, rfl, .inr rfl⟩

/-- While closed and idle OPEN resets or raises the class of the answer, and answers. -/
theorem exec_openDevice {s u : State} {r : OpenReply} (hi : s.outstanding = none) (hc : s.cache = none)
    (hr : s.begin.takeOpenReply = (r, u)) :
    exec .openDevice s = .next ((if r = .ok then u.resetByOpen else u.raise (openClass r)).respond 0) := by
  have hclosed : ¬ s.opened = true := by simp [State.opened, hc]
  rw [exec, execOpenDevice, State.blocked_of_idle s hi, if_neg Bool.false_ne_true, if_neg hclosed, hr]
  cases r <;> rfl

theorem exec_openDevice_of_available {s : State} {c : Cache} (h : Available s c) :
    exec .openDevice s = .refused .alreadyOpen := by
  have hopen : s.opened = true := by simp [State.opened, h.2]
  rw [exec, execOpenDevice, State.blocked_of_idle s h.1, if_neg Bool.false_ne_true, if_pos hopen]

/-- The `err` value of an answer that opens nothing (60_exceptions R260). -/
theorem openClass_flag {r : OpenReply} (h : r ≠ .ok) : (openClass r).flag = if r = .notFound then 0x04 else 0x20 := by
  cases r with
  | ok => exact absurd rfl h
  | notFound | error => rfl

/-- Settles O43: an answer `Ok` resets, any other raises its class; both leave the host's side as it was. -/
theorem openAnsweredOkResets : Obligations.OpenAnsweredOkResets := by
  intro s
  refine ⟨fun hi hc => ?_, fun c h => exec_openDevice_of_available h⟩
  obtain ⟨e, d, r, hr, hsettled⟩ := s.begin.takeOpenReply_eq
  have hidle : (s.begin.afterTaking e d).outstanding = none := hi
  have hexec := exec_openDevice hi hc hr
  by_cases hok : r = .ok
  · rw [if_pos hok] at hexec
    refine ⟨_, r, hexec, hsettled, fun _ => ?reset, fun hne => absurd hok hne, ?_⟩
    case reset =>
      have hrsp := State.respond_rsp_of_idle (s.begin.afterTaking e d).resetByOpen 0 hidle
      refine ⟨?_, ?_, ?_, ?_, ?_, ?_, hrsp⟩ <;> simp [State.selectors, State.afterTaking]
    · simp [State.readBuf, State.afterTaking, hi]
  · rw [if_neg hok] at hexec
    refine ⟨_, r, hexec, hsettled, fun h => absurd h hok, fun _ => ?failed, ?_⟩
    case failed =>
      have herr : ((s.begin.afterTaking e d).raise (openClass r)).err = if r = .notFound then 0x04 else 0x20 :=
        BitVec.zero_or.trans (openClass_flag hok)
      have hrsp := State.respond_rsp_of_idle ((s.begin.afterTaking e d).raise (openClass r)) 0 hidle
      refine ⟨?_, (State.respond_err _ _).trans herr, by rw [hrsp, State.respond_err], ?_, ?_, ?_, ?_⟩ <;>
        simp [State.selectors, State.afterTaking, hc]
    · simp [State.readBuf, State.afterTaking, hi]

/-! ### CLOSE (R244) -/

theorem exec_closeDevice {s : State} {c : Cache} (h : Available s c) :
    exec .closeDevice s = .next (s.begin.destroyCache.respond 0) := by
  rw [exec, execCloseDevice, State.accept_of_available h]

/-- Settles O44: CLOSE answers at once, from the started state without its cache. -/
theorem closeDestroysTheCache : Obligations.CloseDestroysTheCache := by
  intro s c h
  have hran : Ran (s.withCache none).begin s.begin.destroyCache [] [] := Ran.refl (s.withCache none).begin h.1
  have hem := hran.respond 0
  have hun := hran.untouched.respond 0
  have hcache : (s.begin.destroyCache.respond 0).cache = none := State.respond_cache _ _
  exact ⟨_, exec_closeDevice h, hcache, by rw [State.opened, hcache]; rfl, { hem with }, State.respond_err _ _,
    { hun with }, State.respond_selectors _ _⟩

end Sys2Proof.Machine
end

section
/-! Errors and refusals (60_exceptions): what raising a list of classes leaves (O54, O55), the step without a request (O8)
and the operations of a closed XCP (O45). -/

namespace Sys2Proof.Machine

/-! ### Raising errors (R260, R266, R267) -/

/-- Raising classes one after the other ORs them all into `err`. -/
theorem State.foldl_raise (rs : List ResultClass) : ∀ s : State,
    rs.foldl State.raise s = { s with err := s.err ||| orFlags rs } := by
  induction rs with
  | nil => intro s; exact congrArg (fun b => { s with err := b }) BitVec.or_zero.symm
  | cons r rs ih => intro s; simp [ih, State.raise, orFlags, BitVec.or_assoc]

theorem State.raise_comm (s : State) (r q : ResultClass) : (s.raise r).raise q = (s.raise q).raise r :=
  congrArg (fun b => { s with err := b }) (by ac_rfl : s.err ||| r.flag ||| q.flag = s.err ||| q.flag ||| r.flag)

/-- The order in which errors are raised does not matter. -/
theorem State.foldl_raise_perm {rs qs : List ResultClass} (h : rs.Perm qs) (s : State) :
    rs.foldl State.raise s = qs.foldl State.raise s :=
  h.foldl_eq' (fun r _ q _ u => u.raise_comm r q) s

/-- A bit of the OR of some classes is set exactly if one of them sets it. -/
theorem orFlags_getLsbD (rs : List ResultClass) (k : Nat) :
    (orFlags rs).getLsbD k = rs.any fun r => r.flag.getLsbD k := by
  induction rs with
  | nil => simp [orFlags]
  | cons r rs ih => simp [orFlags, ih]

/-- A bit that one class alone sets tells whether that class is among those ORed. -/
theorem orFlags_getLsbD_of_own {q : ResultClass} {k : Nat} (h : ∀ r : ResultClass, r.flag.getLsbD k = decide (r = q))
    (rs : List ResultClass) : (orFlags rs).getLsbD k = decide (q ∈ rs) := by
  rw [orFlags_getLsbD, Bool.eq_iff_iff]
  simp [h]

/-- A bit no class sets stays clear. -/
theorem orFlags_getLsbD_of_reserved {k : Nat} (h : ∀ r : ResultClass, r.flag.getLsbD k = false)
    (rs : List ResultClass) : (orFlags rs).getLsbD k = false := by
  simp [orFlags_getLsbD, h]

/-- Settles O54: raising is an OR into `err`, and each class has its own bit. -/
theorem errorsCombineInAnyOrder : Obligations.ErrorsCombineInAnyOrder := by
  intro s t rs qs hperm ht
  have hown : ∀ {q : ResultClass} {k : Nat}, (∀ r : ResultClass, r.flag.getLsbD k = decide (r = q)) →
      t.err.getLsbD k = (s.err.getLsbD k || decide (q ∈ rs)) := fun h => by
    rw [ht, State.foldl_raise, BitVec.getLsbD_or, orFlags_getLsbD_of_own h]
  have hreserved : ∀ {k : Nat}, (∀ r : ResultClass, r.flag.getLsbD k = false) →
      t.err.getLsbD k = s.err.getLsbD k := fun h => by
    rw [ht, State.foldl_raise, BitVec.getLsbD_or, orFlags_getLsbD_of_reserved h, Bool.or_false]
  refine ⟨(State.foldl_raise_perm hperm s).symm.trans ht.symm, by rw [ht, State.foldl_raise], hown ?_, hown ?_, hown ?_,
    hown ?_, hown ?_, hown ?_, hreserved ?_, hreserved ?_⟩
  all_goals intro r; cases r <;> rfl

/-- Settles O55: the table of R260, and two classes raised from no error. -/
theorem errorFlagValues : Obligations.ErrorFlagValues := by
  refine ⟨rfl, rfl, rfl, rfl, rfl, rfl, rfl, ResultClass.flag_reserved, fun s r q herr => ?_⟩
  rw [State.raise_err, State.raise_err, herr]
  exact congrArg (· ||| q.flag) BitVec.zero_or

/-! ### No request (R272, R285) -/

/-- Settles O8: the step has no request to take (the model's idle step, notes/assumptions/31). -/
theorem stepWithoutRequestKeepsState : Obligations.StepWithoutRequestKeepsState := by
  intro s hr
  have hfetch : s.fetch = none := by rw [State.fetch, hr]
  rw [step, hfetch]

/-! ### Closed (R275) -/

theorem State.accept_of_closed {s : State} (hi : s.outstanding = none) (hc : s.cache = none)
    (body : Cache → State → Host.Outcome State Fault Refusal) : s.accept body = .refused .deviceClosed := by
  rw [State.accept, State.blocked_of_idle s hi, if_neg Bool.false_ne_true, hc]

theorem State.flagSetter_of_closed {s : State} (hi : s.outstanding = none) (hc : s.cache = none)
    (set : Cache → Cache) : s.flagSetter set = .refused .deviceClosed :=
  State.accept_of_closed hi hc _

/-- Settles O45: every operation but OPEN is taken by `State.accept`, which asks for the cache. -/
theorem closedRefusesEveryOperationButOpen : Obligations.ClosedRefusesEveryOperationButOpen := by
  intro s i hi hc hne
  cases i with
  | openDevice => exact absurd rfl hne
  | setGain | setXinv | setYinv | setLinerepeat | setRefout | setReset | setSkim | setPower | setCurrent | setBias
  | setBandwidth | setOutputfactor | setItr | setMultiplereadouts | setNondestructive =>
    unfold exec
    exact State.flagSetter_of_closed hi hc _
  | _ =>
    unfold exec
    exact State.accept_of_closed hi hc _

end Sys2Proof.Machine
end

section
/-! Operations that hang (60_exceptions R272, O47). An action of an operation is a function of the state that does a list
of transactions, each under the cache XCP holds meanwhile: answered, it has done them all; at the first that is never
answered it hangs there. Actions follow one another, so the sequence of an operation is put together as its body is. -/

namespace Sys2Proof.Machine

open Sys2Proof.Config

/-! ### The selector images of a trace (10_state R42) -/

/-- The three selector images after more events. -/
def State.imagesAfter (s : State) (es : List Event) : Byte × Byte × Byte :=
  (payloadAfter s.cfg.tselBase s.tsel es, payloadAfter s.cfg.aselBase s.asel es, payloadAfter s.cfg.auxaBase s.auxa es)

theorem State.imagesAfter_append {s t : State} {es : List Event} (hc : t.cfg = s.cfg)
    (h : t.selectors = s.imagesAfter es) (fs : List Event) : t.imagesAfter fs = s.imagesAfter (es ++ fs) := by
  simp only [State.selectors, State.imagesAfter, Prod.mk.injEq] at h
  obtain ⟨ht, ha, hx⟩ := h
  simp only [State.imagesAfter, hc, ht, ha, hx, payloadAfter, List.foldl_append]

/-- Reads move no selector. -/
theorem State.imagesAfter_of_bulk (s : State) (n t k : Nat) (rs : List ResultClass) :
    s.imagesAfter (eventsOf (List.replicate k (.bulk n t)) rs) = s.selectors := by
  have hstay : ∀ (base : CmdWord) (old : Byte),
      payloadAfter base old (eventsOf (List.replicate k (.bulk n t)) rs) = old := by
    intro base old
    induction k generalizing rs with
    | zero => rfl
    | succ k ih =>
      cases rs with
      | nil => rfl
      | cons r rs => exact ih rs
  simp only [State.imagesAfter, State.selectors, hstay]

/-! ### Transactions done, and one not answered -/

/-- From `s` to `t` the transactions `xs` have been done, answered with `rs`. A status read may raise more than its class
(40_command_channel R131). -/
structure Did (s t : State) (xs : List Xfer) (rs : List ResultClass) : Prop where
  ran : Ran s t xs rs
  err : .status ∉ xs → t.err = s.err ||| orFlags rs
  selectors : t.selectors = s.imagesAfter (eventsOf xs rs)

/-- From `s` to `t` the transactions `xs` have been done, answered with `rs`, and the next one, `x`, is never answered. -/
structure Hung (s t : State) (xs : List Xfer) (rs : List ResultClass) (x : Xfer) : Prop where
  stopped : Stopped s t xs rs x
  err : .status ∉ xs → t.err = s.err ||| orFlags rs
  selectors : t.selectors = s.imagesAfter (eventsOf xs rs)

theorem Did.withCache {s t : State} {xs : List Xfer} {rs : List ResultClass} (h : Did s t xs rs) (k : Option Cache) :
    Did (s.withCache k) (t.withCache k) xs rs :=
  ⟨{ h.ran with cache := rfl }, h.err, h.selectors⟩

section Follow

variable {s t u : State} {xs ys : List Xfer} {rs qs : List ResultClass} {x : Xfer}

/-- The classes of two lists of transactions, one after the other, in `err`. -/
theorem Did.err_append (h : Did s t xs rs) (hu : .status ∉ ys → u.err = t.err ||| orFlags qs) (hs : .status ∉ xs ++ ys) :
    u.err = s.err ||| orFlags (rs ++ qs) := by
  rw [List.mem_append, not_or] at hs
  rw [hu hs.2, h.err hs.1, orFlags_append, BitVec.or_assoc]

theorem Did.trans (h : Did s t xs rs) (k : Did t u ys qs) : Did s u (xs ++ ys) (rs ++ qs) where
  ran := h.ran.trans k.ran
  err := h.err_append k.err
  selectors := by
    rw [k.selectors, State.imagesAfter_append h.ran.cfg h.selectors, eventsOf_append _ _ _ _ h.ran.len]

theorem Did.hung (h : Did s t xs rs) (k : Hung t u ys qs x) : Hung s u (xs ++ ys) (rs ++ qs) x where
  stopped := h.ran.stopped k.stopped
  err := h.err_append k.err
  selectors := by
    rw [k.selectors, State.imagesAfter_append h.ran.cfg h.selectors, eventsOf_append _ _ _ _ h.ran.len]

end Follow

/-- A transaction that is never answered leaves `err` and the images as they were. -/
theorem Hung.of_stopped {s t : State} {x : Xfer} (h : Stopped s t [] [] x) (he : t.err = s.err)
    (hs : t.selectors = s.selectors) : Hung s t [] [] x :=
  ⟨h, fun _ => he.trans BitVec.or_zero.symm, hs⟩

/-- From `s` the environment answers the transactions `xs`, with the classes `rs`, and never the next one, `x`. -/
def HangsAt (s : State) (xs : List Xfer) (rs : List ResultClass) (x : Xfer) : Prop :=
  Answered s xs rs ∧ (s.replies.afterAll xs).classOf x = none

/-- Where `xs` is answered and `xs` with `x` is not, `x` is the one that is not. -/
theorem hangsAt_of_classes {s : State} {xs : List Xfer} {rs : List ResultClass} {x : Xfer} (h : Answered s xs rs)
    (hn : s.replies.classes (xs ++ [x]) = none) : HangsAt s xs rs x := by
  refine ⟨h, Option.eq_none_iff_forall_ne_some.2 fun q hq => ?_⟩
  have hone : (s.replies.afterAll xs).classes [x] = some [q] := by rw [Replies.classes_singleton, hq, Option.map_some]
  rw [Replies.classes_append _ _ _ _ _ h hone] at hn
  cases hn

/-! ### Actions -/

/-- The action `f`, taken under the cache `c`, does the transactions of `steps`, each under its cache, and leaves `c'`; it
does nothing where the sequencer is blocked, and hangs in the first transaction that is never answered. -/
structure Performs (f : State → State) (c : Cache) (steps : List (Xfer × Cache)) (c' : Cache) : Prop where
  of_blocked : ∀ {s : State}, s.blocked = true → f s = s
  did : ∀ {s : State} {rs : List ResultClass}, Available s c → Answered s (steps.map Prod.fst) rs →
    Did (s.withCache (some c')) (f s) (steps.map Prod.fst) rs
  hung : ∀ {s : State} {k : Nat} {x : Xfer} {d : Cache} {rs : List ResultClass}, Available s c →
    steps[k]? = some (x, d) → HangsAt s ((steps.map Prod.fst).take k) rs x →
    Hung (s.withCache (some d)) (f s) ((steps.map Prod.fst).take k) rs x

/-- One action after another. -/
theorem Performs.comp {f g : State → State} {c c' c'' : Cache} {l m : List (Xfer × Cache)} (hf : Performs f c l c')
    (hg : Performs g c' m c'') : Performs (fun s => g (f s)) c (l ++ m) c'' where
  of_blocked hb := by
    show g (f _) = _
    rw [hf.of_blocked hb, hg.of_blocked hb]
  did {s rs} h ha := by
    rw [List.map_append] at ha ⊢
    obtain ⟨rs₁, rs₂, rfl, h₁, h₂⟩ := Replies.classes_append_inv _ _ _ _ ha
    have hdid := hf.did h h₁
    have hnext : Answered (f s) (m.map Prod.fst) rs₂ := by rw [Answered, hdid.ran.replies]; exact h₂
    exact (hdid.withCache (some c'')).trans (hg.did ⟨hdid.ran.idle, hdid.ran.cache⟩ hnext)
  hung {s k x d rs} h hk hat := by
    rw [List.map_append] at hat ⊢
    by_cases hlt : k < l.length
    · rw [List.getElem?_append_left hlt] at hk
      rw [List.take_append_of_le_length (by simpa using hlt.le)] at hat ⊢
      have hhung := hf.hung h hk hat
      have hstay : g (f s) = f s := hg.of_blocked hhung.stopped.blocked
      show Hung _ (g (f s)) _ _ _
      rw [hstay]
      exact hhung
    · obtain ⟨j, rfl⟩ := Nat.exists_eq_add_of_le (Nat.not_lt.1 hlt)
      rw [List.getElem?_append_right (Nat.le_add_right _ _), Nat.add_sub_cancel_left] at hk
      have htake : (l.map Prod.fst ++ m.map Prod.fst).take (l.length + j)
          = l.map Prod.fst ++ (m.map Prod.fst).take j := by
        rw [← List.length_map (f := Prod.fst) (as := l), List.take_length_add_append]
      rw [htake] at hat ⊢
      obtain ⟨hans, hnone⟩ := hat
      obtain ⟨rs₁, rs₂, rfl, h₁, h₂⟩ := Replies.classes_append_inv _ _ _ _ hans
      have hdid := hf.did h h₁
      have hnext : HangsAt (f s) ((m.map Prod.fst).take j) rs₂ x := by
        rw [HangsAt, Answered, hdid.ran.replies]
        exact ⟨h₂, by rw [Replies.afterAll_append] at hnone; exact hnone⟩
      exact (hdid.withCache (some d)).hung (hg.hung ⟨hdid.ran.idle, hdid.ran.cache⟩ hk hnext)

/-- The one position of a list of one. -/
theorem getElem?_under_singleton {c d : Cache} {x y : Xfer} {k : Nat} (h : (under c [x])[k]? = some (y, d)) :
    k = 0 ∧ y = x ∧ d = c := by
  cases k with
  | zero => cases h; exact ⟨rfl, rfl, rfl⟩
  | succ k => cases h

/-- An action that is one transaction. -/
theorem performs_singleton {f : State → State} {c : Cache} {x : Xfer} (hb : ∀ {s : State}, s.blocked = true → f s = s)
    (hdid : ∀ {s : State} {r : ResultClass}, s.outstanding = none → s.replies.classOf x = some r → Did s (f s) [x] [r])
    (hhung : ∀ {s : State}, s.outstanding = none → s.replies.classOf x = none → Hung s (f s) [] [] x) :
    Performs f c (under c [x]) c where
  of_blocked := hb
  did {s rs} h ha := by
    rw [State.withCache_of_cache_eq h.2]
    obtain ⟨r, hr, rfl⟩ := Option.map_eq_some_iff.1 ((Replies.classes_singleton _ _).symm.trans ha)
    exact hdid h.1 hr
  hung {s k y d rs} h hk hat := by
    obtain ⟨rfl, rfl, rfl⟩ := getElem?_under_singleton hk
    obtain ⟨hans, hnone⟩ := hat
    cases hans
    rw [State.withCache_of_cache_eq h.2]
    exact hhung h.1 hnone

theorem performs_send (c : Cache) (w : CmdWord) : Performs (·.send w) c (under c (sent [w])) c :=
  performs_singleton (fun hb => State.send_of_blocked hb w)
    (fun hi hr => by
      obtain ⟨hran, herr⟩ := State.send_ran hi hr
      exact ⟨hran, fun _ => by rw [herr, orFlags_singleton], State.send_selectors hi hr⟩)
    (fun hi hr => by
      obtain ⟨hstop, herr, hsel⟩ := State.send_stopped hi hr
      exact .of_stopped hstop herr hsel)

theorem performs_emit (c : Cache) (ws : List CmdWord) : Performs (·.emit ws) c (under c (sent ws)) c := by
  induction ws with
  | nil =>
    refine ⟨fun _ => rfl, fun {s rs} h ha => ?_, fun _ hk => by cases hk⟩
    cases ha
    rw [State.withCache_of_cache_eq h.2]
    exact ⟨.refl s h.1, fun _ => BitVec.or_zero.symm, rfl⟩
  | cons w ws ih => exact (performs_send c w).comp ih

theorem performs_readStatus (c : Cache) : Performs (·.readStatus.1) c (under c [.status]) c :=
  performs_singleton State.readStatus_of_blocked
    (fun hi hr => by
      obtain ⟨a, ha, rfl⟩ := Option.map_eq_some_iff.1 hr
      obtain ⟨hran, -, hsel, -⟩ := State.readStatus_ran hi ha
      exact ⟨hran, fun hs => absurd List.mem_cons_self hs, hsel⟩)
    (fun hi hr => by
      obtain ⟨hstop, herr, hsel⟩ := State.readStatus_stopped hi (Option.map_eq_none_iff.1 hr)
      exact .of_stopped hstop herr hsel)

theorem performs_settle (c n : Cache) :
    Performs (·.settle n) c (under c [.bulk Config.frameBytes (bulkTimeout n)]) c :=
  performs_singleton (fun hb => State.settle_of_blocked hb n)
    (fun hi hr => by
      obtain ⟨hran, herr, hsel⟩ := State.settle_ran hi hr
      exact ⟨hran, fun _ => by rw [herr, orFlags_singleton], hsel⟩)
    (fun hi hr => by
      obtain ⟨hstop, herr, hsel⟩ := State.settle_stopped hi hr
      exact .of_stopped hstop herr hsel)

/-- A cache write is no transaction; what follows is done under the new cache. -/
theorem performs_storeCache (c n : Cache) : Performs (·.storeCache n) c [] n where
  of_blocked hb := State.storeCache_of_blocked hb n
  did {s rs} h ha := by
    cases ha
    rw [State.storeCache_eq_withCache h.1]
    exact ⟨.refl _ h.1, fun _ => BitVec.or_zero.symm, rfl⟩
  hung _ hk _ := by cases hk

/-! ### Operations -/

/-- Wherever the environment stops answering the sequence `steps`, the outcome `o` of an operation taken in `s` is that it
hangs there. -/
def HangsIn (s : State) (o : Host.Outcome State Fault Refusal) (steps : List (Xfer × Cache)) : Prop :=
  ∀ (k : Nat) (x : Xfer) (d : Cache) (rs : List ResultClass), steps[k]? = some (x, d) →
    HangsAt s ((steps.map Prod.fst).take k) rs x →
    ∃ t, o = .next t ∧ Hung (s.begin.withCache (some d)) t ((steps.map Prod.fst).take k) rs x

theorem hangsIn_nil (s : State) (o : Host.Outcome State Fault Refusal) : HangsIn s o [] := by
  intro k x d rs hk
  cases hk

section Operations

variable {s : State} {c : Cache}

/-- An operation whose body is an action and then `g`, which does nothing where the sequencer is blocked. -/
theorem Performs.hangsIn {f g : State → State} {c' : Cache} {steps : List (Xfer × Cache)} (p : Performs f c steps c')
    (h : Available s c) (hg : ∀ {u : State}, u.blocked = true → g u = u) : HangsIn s (.next (g (f s.begin))) steps := by
  intro k x d rs hk hat
  have hhung := p.hung (s := s.begin) h hk hat
  refine ⟨_, rfl, ?_⟩
  rw [hg hhung.stopped.blocked]
  exact hhung

theorem storeCache_respond_of_blocked {u : State} (hb : u.blocked = true) (n : Cache) (v : Word32) :
    (u.storeCache n).respond v = u := by
  rw [State.storeCache_of_blocked hb, State.respond_of_blocked hb]

/-- Words and the answer. -/
theorem hangsIn_emit (h : Available s c) (ws : List CmdWord) (v : Word32) :
    HangsIn s (.next ((s.begin.emit ws).respond v)) (under c (sent ws)) :=
  (performs_emit c ws).hangsIn (g := (·.respond v)) h fun hb => State.respond_of_blocked hb v

/-- Words, a cache write and the answer. -/
theorem hangsIn_emit_storeCache (h : Available s c) (ws : List CmdWord) (n : Cache) (v : Word32) :
    HangsIn s (.next (((s.begin.emit ws).storeCache n).respond v)) (under c (sent ws)) :=
  (performs_emit c ws).hangsIn (g := fun u => (u.storeCache n).respond v) h fun hb => storeCache_respond_of_blocked hb n v

theorem hangsIn_readAux (h : Available s c) (a : Byte) :
    HangsIn s (.next (s.begin.readAux a)) (under c (auxReadXfers s.cfg a)) := by
  rw [State.readAux_eq]
  exact (((performs_emit c (auxOpening s.cfg a)).comp (performs_readStatus c)).comp
    (performs_emit c (auxClosing s.cfg))).hangsIn (g := (·.respond _)) h fun hb => State.respond_of_blocked hb _

theorem hangsIn_flagSetter (h : Available s c) (set : Cache → Cache) :
    HangsIn s (s.flagSetter set) (under (set c) (flagSetterXfers s.cfg (set c))) := by
  have hcfg : (s.begin.storeCache (set c)).cfg = s.cfg := State.storeCache_cfg _ _
  rw [State.flagSetter, State.accept_of_available h, State.encodeAndSend, hcfg, flagSetterXfers_eq, under,
    List.map_append]
  exact (((performs_storeCache c (set c)).comp (performs_emit (set c) (encodeWords s.cfg (set c)))).comp
    (performs_settle (set c) (set c))).hangsIn (g := (·.respond 0)) h fun hb => State.respond_of_blocked hb 0

theorem hangsIn_setItime (h : Available s c) {ms : Nat} (hms : ms ≤ 107374) :
    HangsIn s (exec (.setItime ms) s)
      (under c (sent (itimeWords s.cfg ms)) ++ under (c.withItime ms) [.bulk 163840 (2 * (5000 + ms))]) := by
  rw [exec_setItime h hms, ← bulkTimeout_withItime c hms, ← List.append_nil (under c (sent _))]
  exact (((performs_emit c (itimeWords s.cfg ms)).comp (performs_storeCache c (c.withItime ms))).comp
    (performs_settle _ (c.withItime ms))).hangsIn (g := (·.respond 0)) h fun hb => State.respond_of_blocked hb 0

theorem hangsIn_captureData (h : Available s c) {b n : Nat} (hpos : 0 < n) (hn : b + n - 1 ≤ 0xFFFFFFFF) :
    HangsIn s (exec (.captureData b n) s) (under c [.bulk n (bulkTimeout c)]) := by
  intro k x d rs hk hat
  obtain ⟨rfl, rfl, rfl⟩ := getElem?_under_singleton hk
  obtain ⟨hans, hnone⟩ := hat
  cases hans
  have hreply := Option.map_eq_none_iff.1 hnone
  obtain ⟨-, herr, -, hv⟩ := State.bulkRead_stopped (s := s.begin) n (bulkTimeout d) h.1 hreply
  obtain ⟨hstop, hsel⟩ := State.captureBytes_stopped (s := s.begin) b n (bulkTimeout d) h.1 hreply
  have hread : s.begin.captureBytes b n (bulkTimeout d) = (s.begin.bulkRead n (bulkTimeout d)).1 := by
    simp only [State.captureBytes, hv]
  rw [State.withCache_of_cache_eq (s := s.begin) h.2]
  exact ⟨_, exec_captureData h hpos hn, .of_stopped hstop (by rw [hread, herr]) hsel⟩

/-- Every operation but the capture of frames hangs where its sequence is no longer answered. -/
theorem hangsIn_exec (h : Available s c) {i : Instr} (hi : ∀ b n, i ≠ .captureFrames b n) :
    HangsIn s (exec i s) (sequenceOf s.cfg c i) := by
  cases i with
  | captureFrames b n => exact absurd rfl (hi b n)
  | writeBit id d =>
    rw [sequenceOf]
    cases hx : bitIndex s.cfg id with
    | none => exact hangsIn_nil _ _
    | some idx => rw [exec_writeBit_of_index h hx]; exact hangsIn_emit h _ 0
  | write16 id v =>
    rw [sequenceOf]
    cases hr : reg16Of id with
    | none => exact hangsIn_nil _ _
    | some r => rw [exec_write16_of_reg h hr]; exact hangsIn_emit h _ 0
  | write32 id v =>
    rw [sequenceOf]
    split
    next hid => subst hid; exact exec_write32_sensorWord h v ▸ hangsIn_emit h _ 0
    next => exact hangsIn_nil _ _
  | read16 id =>
    rw [sequenceOf]
    cases ha : auxAddress s.cfg id with
    | none => exact hangsIn_nil _ _
    | some a => rw [exec_read16_of_address h ha]; exact hangsIn_readAux h a
  | encodeAndSend => rw [exec_encodeAndSend h]; exact hangsIn_emit h _ 0
  | setFrameRate hz =>
    rw [sequenceOf]
    split
    next => exact hangsIn_nil _ _
    next hok =>
      rw [not_or] at hok
      rw [exec_setFrameRate h (Nat.pos_of_ne_zero hok.1) hok.2]
      exact hangsIn_emit_storeCache h _ _ 0
  | setCaptureMode =>
    rw [exec_setCaptureMode h]
    exact (performs_emit c (captureModeWords s.cfg)).hangsIn
      (g := fun u => ((u.storeCache _).storeCstate .configured).respond 0) h fun hb => by
        rw [State.storeCache_of_blocked hb, State.storeCstate_of_blocked hb, State.respond_of_blocked hb]
  | setWoi xs ys xe ye => rw [exec_setWoi h]; exact hangsIn_emit_storeCache h _ _ 0
  | setItimeInternal ms =>
    rw [sequenceOf]
    split
    next => exact hangsIn_nil _ _
    next hms => rw [exec_setItimeInternal h (Nat.not_lt.1 hms)]; exact hangsIn_emit_storeCache h _ _ 0
  | setItime ms =>
    rw [sequenceOf]
    split
    next => exact hangsIn_nil _ _
    next hms => exact hangsIn_setItime h (Nat.not_lt.1 hms)
  | captureData b n =>
    rw [sequenceOf]
    split
    next => exact hangsIn_nil _ _
    next hok =>
      rw [not_or] at hok
      exact hangsIn_captureData h (Nat.pos_of_ne_zero hok.1) (Nat.not_lt.1 hok.2)
  | setGain | setXinv | setYinv | setLinerepeat | setRefout | setReset | setSkim | setPower | setCurrent | setBias
  | setBandwidth | setOutputfactor | setItr | setMultiplereadouts | setNondestructive =>
    exact hangsIn_flagSetter h _
  | setPwm v => rw [exec_setPwm h]; exact hangsIn_emit_storeCache h _ _ 0
  | setCooling v => rw [exec_setCooling h]; exact hangsIn_emit_storeCache h [ctlWord s.cfg s.cfg.idxCooling v] _ 0
  | setImageInvert v => rw [exec_setImageInvert h]; exact hangsIn_emit_storeCache h [ctlWord s.cfg s.cfg.idxInvert v] _ 0
  | setAnalog id v =>
    rw [exec, execSetAnalog, State.accept_of_available h, sequenceOf]
    cases reg16Of id with
    | none => exact hangsIn_nil _ _
    | some r =>
      dsimp only
      split
      · exact hangsIn_emit_storeCache h _ _ 0
      · exact hangsIn_emit_storeCache h _ _ 0
  | getTemperatureAdu => rw [exec_of_mem_auxReads h (a := s.cfg.auxTemperature) (by simp)]; exact hangsIn_readAux h _
  | getTemperatureAdcType => rw [exec_of_mem_auxReads h (a := s.cfg.auxAdcType) (by simp)]; exact hangsIn_readAux h _
  | get | openDevice | closeDevice => exact hangsIn_nil _ _

end Operations

/-! ### CAPTURE_FRAMES (R196) -/

/-- The loop over frames hangs in its first frame that is never answered: the frames before it are logged, and no byte
outside their regions is written. -/
theorem State.captureLoop_stopped {s : State} (t a : Nat) {n k : Nat} {rs : List ResultClass} (hk : k < n)
    (hi : s.outstanding = none)
    (hat : HangsAt s (List.replicate k (.bulk Config.frameBytes t)) rs (.bulk Config.frameBytes t)) :
    Stopped { s with framelog := s.framelog ++ rs, buf := (s.captureLoop t n a).buf } (s.captureLoop t n a)
        (List.replicate k (.bulk Config.frameBytes t)) rs (.bulk Config.frameBytes t) ∧
      (s.captureLoop t n a).selectors = s.selectors ∧
      ∀ x, x < a ∨ a + k * Config.frameBytes ≤ x → (s.captureLoop t n a).readBuf x = s.readBuf x := by
  obtain ⟨hans, hnone⟩ := hat
  obtain ⟨m, rfl⟩ := Nat.exists_eq_add_of_lt hk
  obtain ⟨hran, hlog, -, hsel, -, houtside⟩ := State.captureLoop_ran t k s a rs hi hans
  obtain ⟨hstop, -, hsel'⟩ := State.captureFrame_stopped (s := s.captureLoop t k a) (a + k * Config.frameBytes) t hran.idle
    (by rw [hran.replies]; exact Option.map_eq_none_iff.1 hnone)
  have hloop : s.captureLoop t (k + m + 1) a = (s.captureLoop t k a).captureFrame (a + k * Config.frameBytes) t := by
    rw [Nat.add_assoc, State.captureLoop_add, State.captureLoop, State.captureLoop_of_blocked hstop.blocked]
  rw [hloop]
  have hall := hran.stopped hstop
  rw [List.append_nil, List.append_nil] at hall
  refine ⟨{ hall with framelog := hstop.framelog.trans hlog, buf := rfl }, hsel'.trans hsel, fun x hx => ?_⟩
  rw [State.readBuf, hstop.buf]
  exact houtside x hx

/-- What stands at a position of the sequence of a capture of frames: a full-frame read, after as many others. -/
theorem sequenceOf_captureFrames_at {P : Params} {c d : Cache} {b n k : Nat} {x : Xfer}
    (hk : (sequenceOf P c (.captureFrames b n))[k]? = some (x, d)) :
    k < n / 81920 ∧ b + n / 81920 * 163840 - 1 ≤ 0xFFFFFFFF ∧ d = c ∧ x = .bulk Config.frameBytes (bulkTimeout c) ∧
      ((sequenceOf P c (.captureFrames b n)).map Prod.fst).take k
        = List.replicate k (.bulk Config.frameBytes (bulkTimeout c)) := by
  rw [sequenceOf] at hk ⊢
  split at hk
  next => cases hk
  next hspace =>
    rw [if_neg hspace]
    rw [under, List.map_replicate, List.getElem?_replicate] at hk
    split at hk
    next hlt =>
      cases hk
      refine ⟨hlt, by omega, rfl, rfl, ?_⟩
      rw [under, List.map_replicate, List.map_replicate, List.take_replicate, Nat.min_eq_left hlt.le]
      rfl
    next => cases hk

/-- The capture of frames hangs where its sequence is no longer answered. -/
theorem captureFrames_hangs {s : State} {c d : Cache} {b n k : Nat} {xs : List Xfer} {x : Xfer} {rs : List ResultClass}
    (h : Available s c) (hxs : xs = ((sequenceOf s.cfg c (.captureFrames b n)).map Prod.fst).take k)
    (hk : (sequenceOf s.cfg c (.captureFrames b n))[k]? = some (x, d)) (hat : HangsAt s xs rs x) :
    ∃ t, exec (.captureFrames b n) s = .next t ∧
      Stopped { s.begin.withCache (some d) with framelog := rs, buf := t.buf } t xs rs x ∧
      t.selectors = s.imagesAfter (eventsOf xs rs) ∧
      ∀ a, a < b ∨ b + k * 163840 ≤ a → t.readBuf a = s.readBuf a := by
  obtain ⟨hlt, hspace, rfl, rfl, htake⟩ := sequenceOf_captureFrames_at hk
  rw [htake] at hxs
  subst hxs
  obtain ⟨hstop, hsel, houtside⟩ := State.captureLoop_stopped (s := s.beginFrames) (bulkTimeout d) b hlt h.1 hat
  have hexec := exec_captureFrames (buf := b) (n := n) h (.inr hspace)
  rw [State.respond_of_blocked hstop.blocked] at hexec
  refine ⟨_, hexec, { hstop with cache := hstop.cache.trans h.2 }, hsel.trans ?_, houtside⟩
  rw [State.imagesAfter_of_bulk]
  rfl

/-! ### Every operation -/

/-- Where the sequence of an operation is no longer answered the operation stops; a capture of frames has logged the frames
before and written nothing outside their regions, any other operation has the classes in `err` and has written neither the
frame log nor the frame buffer. -/
theorem exec_stops {s : State} {c d : Cache} {i : Instr} {xs : List Xfer} {rs : List ResultClass} {k : Nat} {x : Xfer}
    (h : Available s c) (hxs : xs = ((sequenceOf s.cfg c i).map Prod.fst).take k)
    (hk : (sequenceOf s.cfg c i)[k]? = some (x, d)) (hat : HangsAt s xs rs x) :
    ∃ t log, exec i s = .next t ∧
      Stopped { s.begin.withCache (some d) with framelog := log, buf := t.buf } t xs rs x ∧
      t.selectors = s.imagesAfter (eventsOf xs rs) ∧
      ((∀ b n, i ≠ .captureFrames b n) →
        (.status ∉ xs → t.err = orFlags rs) ∧ log = s.framelog ∧ t.buf = s.buf) ∧
      (∀ b n, i = .captureFrames b n → log = rs ∧ ∀ a, a < b ∨ b + k * 163840 ≤ a → t.readBuf a = s.readBuf a) := by
  by_cases hi : ∃ b n, i = .captureFrames b n
  · obtain ⟨b, n, rfl⟩ := hi
    obtain ⟨t, hexec, hstop, hsel, houtside⟩ := captureFrames_hangs h hxs hk hat
    refine ⟨t, rs, hexec, hstop, hsel, fun hne => absurd rfl (hne b n), ?_⟩
    rintro _ _ ⟨⟩
    exact ⟨rfl, houtside⟩
  · subst hxs
    have hne : ∀ b n, i ≠ .captureFrames b n := fun b n he => hi ⟨b, n, he⟩
    obtain ⟨t, hexec, hstop, herr, hsel⟩ := hangsIn_exec h hne k x d rs hk hat
    exact ⟨t, s.framelog, hexec, { hstop with buf := rfl }, hsel,
      fun _ => ⟨fun hs => (herr hs).trans BitVec.zero_or, rfl, hstop.buf⟩, fun b n he => absurd he (hne b n)⟩

/-- Settles O47: the sequence of an operation is what its body performs, and a capture of frames is its loop. -/
theorem unansweredWordBlocksTheSequencer : Obligations.UnansweredWordBlocksTheSequencer := by
  intro s c c' i xs rs k x h hxs hk hans hnone
  obtain ⟨t, log, hexec, hstop, hsel, hother, hframes⟩ := exec_stops h hxs hk (hangsAt_of_classes hans hnone)
  have hlen : xs.length = k := by
    obtain ⟨hlt, -⟩ := List.getElem?_eq_some_iff.1 hk
    rw [hxs, List.length_take, List.length_map, Nat.min_eq_left hlt.le]
  have hseq : t.seq = k := by rw [hstop.seq, hlen]; exact Nat.zero_add k
  refine ⟨t, hexec, ?outstanding, hstop.rsp, hseq, hstop.trace, fun hs hi => (hother hi).1 hs, hstop.cache, ?cstate,
    hstop.cfg, hstop.reqs, fun hi => ?other, fun b n hi => ?frames, hsel, stepWithoutRequestKeepsState t⟩
  case outstanding => cases x <;> exact hstop.outstanding
  case cstate => cases x <;> exact hstop.cstate
  case other =>
    obtain ⟨-, rfl, hbuf⟩ := hother hi
    exact ⟨hstop.framelog, fun a => by rw [State.readBuf, State.readBuf, hbuf]⟩
  case frames =>
    obtain ⟨rfl, houtside⟩ := hframes b n hi
    exact ⟨hstop.framelog, houtside⟩

end Sys2Proof.Machine
end
